-- ==== Sys2Proof/Word.lean ====
section
/-! DEFINITION. The engine's data types: bytes, register words, blocks, schedule rows and the state
matrix (00_scope.md R11, R12). -/

namespace Sys2Proof

/-- A byte, 8 bits (R11). -/
abbrev Byte := BitVec 8

/-- A register word or a command word, 32 bits (R9 `BUSW`, `CMDW`; R11). -/
abbrev Word := BitVec 32

/-- A block: a byte sequence of length 16 (R7 `NB`, R12). -/
abbrev Block := Vector Byte 16

/-- A schedule word `W[i]`: 4 bytes `W[i][0..3]` (R12, R74); the source calls it a row. -/
abbrev Row := Vector Byte 4

/-- The key-schedule storage `W[0..59]` (R8 `NWMAX`, R42). -/
abbrev Schedule := Vector Row 60

/-- The 4x4 byte matrix `S`, indexed `S[row][col]` (R12, R45). -/
abbrev Matrix := Vector (Vector Byte 4) 4

/-- The word index `off[7:2]` of a bus access, all that the interface carries of an address (R70). -/
abbrev WordIndex := BitVec 6

end Sys2Proof
end

