-- ==== Sys2Proof/Syntax.lean ====
section
/-! DEFINITION. The commands, one constructor per row of the opcode table, and the results of
decoding (30_encoding.md). -/

namespace Sys2Proof

/-- The three key sizes that `KSZ` can select (R2, R105; notes/assumptions 12). -/
inductive KeySize where
  | k128
  | k192
  | k256
  deriving DecidableEq, Repr

/-- The error codes a command can complete with; codes 6 to 15 are never produced (R271;
notes/assumptions 12). -/
inductive ErrCode where
  | ok
  | badOp
  | badField
  | badKsz
  | noKey
  | noIv
  deriving DecidableEq, Repr

/-- A command (R102). -/
inductive Instr where
  /-- `NOP` (R136). -/
  | nop
  /-- `KEYINIT` with its key size (R153). -/
  | keyinit (size : KeySize)
  /-- `ENC` (R196). -/
  | enc
  /-- `DEC` (R197). -/
  | dec
  /-- `OFBINIT` (R241). -/
  | ofbinit
  /-- `OFBXOR n`, `n` the byte count `LENM1 + 1` (R106, R242). -/
  | ofbxor (n : Nat)
  deriving DecidableEq, Repr

/-- What `Decode` returns: `Cmd(op, ksz, n)` or `Reject(code)` (R103). -/
inductive Decoded where
  | cmd (i : Instr)
  | reject (code : ErrCode)
  deriving DecidableEq, Repr

end Sys2Proof
end

