-- ==== Sys2Proof/WellFormed.lean ====
section
/-! DEFINITION. Which commands an encoding can express. -/

namespace Sys2Proof

/-- `OFBXOR` takes 1 to 16 bytes; `n = 0` cannot be encoded (R106). The other commands' operands are
legal by their types. -/
def Instr.wf : Instr → Bool
  | .ofbxor n => decide (1 ≤ n) && decide (n ≤ 16)
  | .nop => true
  | .keyinit _ => true
  | .enc => true
  | .dec => true
  | .ofbinit => true

end Sys2Proof
end

