-- ==== Sys2Proof/Decode.lean ====
section
/-! DEFINITION. The command word: `Decode`, total on every 32-bit word and rejecting by code, and
the encoder (30_encoding.md R101 to R107). -/

namespace Sys2Proof

/-- The `KSZ` code of a key size (R105). -/
def KeySize.code : KeySize → BitVec 2
  | .k128 => 0
  | .k192 => 1
  | .k256 => 2

/-- The key size a `KSZ` code selects; 3 selects none (R105). -/
def KeySize.ofCode (ksz : BitVec 2) : Option KeySize :=
  if ksz = 0 then some .k128
  else if ksz = 1 then some .k192
  else if ksz = 2 then some .k256
  else none

/-- `OP`, bits `[3:0]` (R101). -/
def opField (c : Word) : BitVec 4 := c.extractLsb' 0 4

/-- `KSZ`, bits `[5:4]` (R101). -/
def kszField (c : Word) : BitVec 2 := c.extractLsb' 4 2

/-- `LENM1`, bits `[11:8]` (R101). -/
def lenm1Field (c : Word) : BitVec 4 := c.extractLsb' 8 4

/-- Some bit of the reserved fields `[7:6]` and `[31:12]` is set (R101). -/
def reservedSet (c : Word) : Bool :=
  c.extractLsb' 12 20 != 0 || c.extractLsb' 6 2 != 0

/-- `Decode` (R103): the tests in the rule's order, the first that applies wins. -/
def decode (c : Word) : Decoded :=
  if 6 ≤ (opField c).toNat then .reject .badOp
  else if reservedSet c then .reject .badField
  else if opField c ≠ 1 ∧ kszField c ≠ 0 then .reject .badField
  else if opField c ≠ 5 ∧ lenm1Field c ≠ 0 then .reject .badField
  else if opField c = 0 then .cmd .nop
  else if opField c = 1 then
    match KeySize.ofCode (kszField c) with
    | some size => .cmd (.keyinit size)
    | none => .reject .badKsz
  else if opField c = 2 then .cmd .enc
  else if opField c = 3 then .cmd .dec
  else if opField c = 4 then .cmd .ofbinit
  else .cmd (.ofbxor ((lenm1Field c).toNat + 1))

/-- The command word with the given fields and every reserved bit 0 (R101). -/
def commandWord (lenm1 : BitVec 4) (ksz : BitVec 2) (op : BitVec 4) : Word :=
  (lenm1.setWidth 32 <<< 8) ||| (ksz.setWidth 32 <<< 4) ||| op.setWidth 32

/-- The word of a well-formed command (R102, R105, R106). -/
def encode : Instr → Word
  | .nop => commandWord 0 0 0
  | .keyinit size => commandWord 0 size.code 1
  | .enc => commandWord 0 0 2
  | .dec => commandWord 0 0 3
  | .ofbinit => commandWord 0 0 4
  | .ofbxor n => commandWord (BitVec.ofNat 4 (n - 1)) 0 5

/-- The command that the decoder reads from a table row's word of `nbits` bits; the bits above are
0 (R100: there is one 32-bit format). -/
def decodeTableWord (nbits w : Nat) : Option Instr :=
  match decode (BitVec.ofNat 32 (w % 2 ^ nbits)) with
  | .cmd i => some i
  | .reject _ => none

end Sys2Proof
end

