-- ==== Sys2Proof/Config.lean ====
section
/-! DEFINITION. What the spec leaves open for an implementation or a platform: the free values and
the base address. None has a body, so no proof can use a value of one. -/

namespace Sys2Proof

/-- The n-th free byte: a value the spec leaves unspecified (93_implementation_defined.md part 1,
items 1 to 3: `any value`). DESIGN CHOICE, notes/assumptions 3, 4 and 5. -/
opaque Config.freeByte : Nat → Byte

/-- `BASE`, the address of the register block in the host's address space: any address the platform
chooses (R10, R82). DESIGN CHOICE, notes/assumptions 10. -/
opaque Config.base : Nat

end Sys2Proof
end

