-- ==== Sys2Proof/Machine/Free.lean ====
section
/-! DEFINITION. Rows and blocks of free bytes: what stands where the spec leaves a value unspecified
(93_implementation_defined.md part 1, items 1 to 3). -/

namespace Sys2Proof.Machine

/-- Four free bytes, the draws `n` to `n + 3`. -/
def freeRow (n : Nat) : Row := Vector.ofFn fun j => Config.freeByte (n + j.val)

/-- Sixteen free bytes, the draws `n` to `n + 15`. -/
def freeBlock (n : Nat) : Block := Vector.ofFn fun j => Config.freeByte (n + j.val)

/-- A schedule storage of which nothing is specified, the draws `n` to `n + 239`. -/
def freeSchedule (n : Nat) : Schedule := Vector.ofFn fun i => freeRow (n + 4 * i.val)

end Sys2Proof.Machine
end

