-- ==== Sys2Proof/Machine/State.lean ====
section
/-! DEFINITION. The engine's state (10_state.md), the events that drive it, and the state after
reset (70_reset_and_hazards.md R320). -/

namespace Sys2Proof.Machine

/-- A step some agent takes (R79, R134; the reset input R320). -/
inductive Event where
  /-- `BusRead` of the register at word index `off[7:2]` (R70, R75). -/
  | read (idx : WordIndex)
  /-- `BusWrite` of `v` to the register at word index `off[7:2]` (R70, R76). -/
  | write (idx : WordIndex) (v : Word)
  /-- The engine's turn: it completes the pending command if there is one (R132, R134). -/
  | complete
  /-- `rst_n` is asserted and released (R320, R322). -/
  | reset
  deriving DecidableEq, Repr

/-- What one host read returned: `R off -> v` (R110). -/
structure ReadRecord where
  idx : WordIndex
  v : Word
  deriving DecidableEq, Repr

/-- The state of the engine (R30), with three fields of the model's own at the end. `CMD` holds no
value (R33), `STATUS` and `irq` are computed from the fields (R34, R47), the constant tables are
definitions (R46), and the state matrix lives inside one completion (R45). -/
structure State where
  /-- `IE[1:0]`: `DONE_IE` and `OVR_IE`; the other bits of `IE` hold nothing (R35). -/
  ie : BitVec 2
  /-- `KEY0..KEY7` (R36). -/
  key : Vector Word 8
  /-- `DIN0..DIN3` (R37). -/
  din : Vector Word 4
  /-- `DOUT0..DOUT3` (R38). -/
  dout : Vector Word 4
  /-- `IV0..IV3` (R39). -/
  iv : Vector Word 4
  /-- `CTX_VALID` (R41). -/
  ctxValid : Bool
  /-- `CTX_KSZ` (R41). -/
  ctxKsz : KeySize
  /-- The key schedule `W[0..59]` (R42). -/
  w : Schedule
  /-- The current keystream block `KS` (R43). -/
  ks : Block
  /-- `OFB_READY` (R43). -/
  ofbReady : Bool
  /-- `OFB_POS` (R43). -/
  ofbPos : BitVec 4
  /-- `BUSY` (R44). -/
  busy : Bool
  /-- `DONE` (R44). -/
  done : Bool
  /-- `OVR` (R44). -/
  ovr : Bool
  /-- `ERR` (R44, R271). -/
  err : ErrCode
  /-- `PEND`, the command word captured at issue (R44). -/
  pend : Word
  /-- The model's own: how many free bytes have been drawn (notes/assumptions 5). -/
  draws : Nat
  /-- The model's own: the steps that are to come, in order (notes/assumptions 1). -/
  agenda : List Event
  /-- The model's own: what host reads have returned, newest first (notes/assumptions 7). -/
  reads : List ReadRecord
  deriving DecidableEq, Repr

/-- Why the machine stops with a fault: never. "No command raises a trap and no event stops the
engine" (R270), so no one raises a fault and the type is empty; this is safe. -/
inductive Fault where
  deriving DecidableEq, Repr

/-- Why an instruction is refused. -/
inductive Refusal where
  /-- Raised by an arm of `exec` for a command that has no meaning in the model; safe. No arm
  raises it now. -/
  | notModelled (mnemonic : String)
  deriving DecidableEq, Repr

/-- Every state element at its reset value (R320). `W` and `KS` are unspecified: free draws from
`draws` on (R321; notes/assumptions 3). The host's side, `agenda` and `reads`, is not the
engine's and is given. -/
def State.afterReset (draws : Nat) (agenda : List Event) (reads : List ReadRecord) : State where
  ie := 0
  key := Vector.replicate 8 0
  din := Vector.replicate 4 0
  dout := Vector.replicate 4 0
  iv := Vector.replicate 4 0
  ctxValid := false
  ctxKsz := .k128
  w := freeSchedule draws
  ks := freeBlock (draws + 240)
  ofbReady := false
  ofbPos := 0
  busy := false
  done := false
  ovr := false
  err := .ok
  pend := 0
  draws := draws + 256
  agenda := agenda
  reads := reads

/-- The machine right after reset, with no event to come. -/
def State.reset : State := State.afterReset 0 [] []

end Sys2Proof.Machine
end

