-- ==== Sys2Proof/Machine/Operands.lean ====
section
/-! DEFINITION. Operand forms: the register an access names (10_state.md R32), the byte order of
registers and blocks (20_memory.md R71 to R74), and what the key-size code selects
(30_encoding.md R105). -/

namespace Sys2Proof

/-- `NK`, the key length in words: `NK = 4 + 2 * KSZ` (R7, R105). -/
def KeySize.nk (size : KeySize) : Nat := 4 + 2 * size.code.toNat

/-- `NR`, the round count: `NR = NK + 6` (R7). -/
def KeySize.nr (size : KeySize) : Nat := size.nk + 6

/-- `NW`, the schedule length in words: `NW = 4 * (NR + 1)` (R7). -/
def KeySize.nw (size : KeySize) : Nat := 4 * (size.nr + 1)

end Sys2Proof

namespace Sys2Proof.Machine

/-- The registers of the map (R32); `reserved` stands for offsets `0x0C` and `0x60..0xFC`. -/
inductive Reg where
  | cmd
  | status
  | ie
  | key (k : Fin 8)
  | din (k : Fin 4)
  | dout (k : Fin 4)
  | iv (k : Fin 4)
  | reserved
  deriving DecidableEq, Repr

/-- The register at a word index, that is at byte offset `4 * idx` (R32, R70). -/
def regAt (idx : WordIndex) : Reg :=
  let n := idx.toNat
  if n = 0 then .cmd
  else if n = 1 then .status
  else if n = 2 then .ie
  else if n = 3 then .reserved
  else if h : n < 12 then .key ⟨n - 4, by omega⟩
  else if h : n < 16 then .din ⟨n - 12, by omega⟩
  else if h : n < 20 then .dout ⟨n - 16, by omega⟩
  else if h : n < 24 then .iv ⟨n - 20, by omega⟩
  else .reserved

/-- The word index `off[7:2]` of a byte offset (R70). -/
def wordIndex (off : BitVec 8) : WordIndex := off.extractLsb' 2 6

/-- The host address of the register at a word index: `BASE` plus its byte offset (R10, R82). -/
def busAddress (idx : WordIndex) : Nat := Config.base + 4 * idx.toNat

/-- Byte `j` of a register word, `v[31 - 8j : 24 - 8j]`: byte 0 is the most significant (R71). -/
def wordByte (v : Word) (j : Nat) : Byte := v.extractLsb' (24 - 8 * j) 8

/-- The register word of four bytes, the first most significant (R71). -/
def packWord (b0 b1 b2 b3 : Byte) : Word := b0 ++ b1 ++ b2 ++ b3

/-- `BlockOf(v0, v1, v2, v3)` (R71). -/
def blockOf (v : Vector Word 4) : Block :=
  Vector.ofFn fun i => wordByte v[i.val / 4] (i.val % 4)

/-- `WordsOf(b)`, the inverse of `BlockOf` (R71). -/
def wordsOf (b : Block) : Vector Word 4 :=
  Vector.ofFn fun k =>
    packWord b[4 * k.val] b[4 * k.val + 1] b[4 * k.val + 2] b[4 * k.val + 3]

/-- The key bytes of `KEY0..KEY(NK-1)`, `key[4k + j] = KEYk[31 - 8j : 24 - 8j]` (R72). -/
def keyBytes (size : KeySize) (key : Vector Word 8) : List Byte :=
  (key.toList.take size.nk).flatMap fun v =>
    [wordByte v 0, wordByte v 1, wordByte v 2, wordByte v 3]

/-- The state matrix with entry `f row col` at `S[row][col]` (R12). -/
def matrixOf (f : Fin 4 → Fin 4 → Byte) : Matrix :=
  Vector.ofFn fun row => Vector.ofFn fun col => f row col

/-- `S[row][col]` (R12). -/
def entry (S : Matrix) (row col : Fin 4) : Byte := S[row][col]

/-- `Load(b)`: `S[row][col] = b[col*4 + row]` (R73). -/
def loadBlock (b : Block) : Matrix :=
  matrixOf fun row col => b[col.val * 4 + row.val]

/-- `Store(S)`, the inverse of `Load`: `b[col*4 + row] = S[row][col]` (R73). -/
def storeBlock (S : Matrix) : Block :=
  Vector.ofFn fun i => entry S ⟨i.val % 4, by omega⟩ ⟨i.val / 4, by omega⟩

/-- The message bytes an `OFBXOR n` reads: `BlockOf(DIN0..DIN3)[0..n-1]` (R37, R242). -/
def messageBytes (n : Nat) (din : Vector Word 4) : List Byte := (blockOf din).toList.take n

/-- The output block of an `OFBXOR`: the given bytes, and 0 in the bytes after them (R242). -/
def zeroPadded (o : List Byte) : Block := Vector.ofFn fun i => o.getD i.val 0

end Sys2Proof.Machine
end

