-- ==== Sys2Proof/Machine/Flags.lean ====
section
/-! DEFINITION. The flags: the value `STATUS` reads as, the interrupt output, and the
write-1-to-clear of `DONE` and `OVR` (10_state.md R34, R47; 60_exceptions.md R271, R274). -/

namespace Sys2Proof

/-- The 4-bit code of an error in `STATUS.ERR` (R271). -/
def ErrCode.code : ErrCode → BitVec 4
  | .ok => 0
  | .badOp => 1
  | .badField => 2
  | .badKsz => 3
  | .noKey => 4
  | .noIv => 5

end Sys2Proof

namespace Sys2Proof.Machine

/-- A flag as a word with the flag in bit 0. -/
def flagWord (b : Bool) : Word := (BitVec.ofBool b).setWidth 32

/-- The value a read of `STATUS` returns (R34). -/
def statusWord (s : State) : Word :=
  (s.err.code.setWidth 32 <<< 12) ||| (s.ofbPos.setWidth 32 <<< 8)
    ||| (s.ctxKsz.code.setWidth 32 <<< 6) ||| (flagWord s.ovr <<< 4) ||| (flagWord s.done <<< 3)
    ||| (flagWord s.ofbReady <<< 2) ||| (flagWord s.ctxValid <<< 1) ||| flagWord s.busy

/-- The interrupt output, a level: `irq = (DONE & IE[0]) | (OVR & IE[1])` (R47, R274). -/
def irq (s : State) : Bool := (s.done && s.ie.getLsbD 0) || (s.ovr && s.ie.getLsbD 1)

/-- A host write of `v` to `STATUS`: `v[3] = 1` clears `DONE`, `v[4] = 1` clears `OVR`, the other
bits are ignored (R76). This is the host's acknowledgement of a completion or of a dropped write
(R276). -/
def acknowledge (v : Word) (s : State) : State :=
  { s with done := s.done && !v.getLsbD 3, ovr := s.ovr && !v.getLsbD 4 }

end Sys2Proof.Machine
end

