-- ==== Sys2Proof/Machine/Ops.lean ====
section
/-! DEFINITION. The shared operations on the state: issue, completion and rejection
(40_command_lifecycle.md), the bus accesses (20_memory.md R75, R76), the updates of the context,
the stream and the output block, and reset (70_reset_and_hazards.md R320, R322). -/

namespace Sys2Proof.Machine

/-- Issue of a command word (R130): nothing else changes, and the word is not checked. -/
def issue (c : Word) (s : State) : State := { s with pend := c, busy := true, done := false }

/-- A host write dropped because `BUSY = 1`: `OVR <- 1` and nothing else (R76, R131). -/
def dropWrite (s : State) : State := { s with ovr := true }

/-- What every completion writes: `ERR <- code`, `BUSY <- 0`, `DONE <- 1` (R132). -/
def finish (code : ErrCode) (s : State) : State :=
  { s with err := code, busy := false, done := true }

/-- `reject(code)`: the command ends at once with the code and no other effect (R13, R133). This is
all that an error does: nothing is saved and nothing is entered (R275). -/
def reject (code : ErrCode) (s : State) : Host.Outcome State Fault Refusal :=
  .next (finish code s)

/-- A command that succeeds, its effects already applied to `s` (R132). -/
def succeed (s : State) : Host.Outcome State Fault Refusal := .next (finish .ok s)

/-- Write of the output block (R38, R71). -/
def setDout (b : Block) (s : State) : State := { s with dout := wordsOf b }

/-- Write of the keystream block, the stream position and `OFB_READY` (R43). -/
def setStream (ks : Block) (pos : BitVec 4) (ready : Bool) (s : State) : State :=
  { s with ks := ks, ofbPos := pos, ofbReady := ready }

/-- The schedule storage after the given rows are written to its front: the rows behind them are
left unspecified, free draws from `draws` on (R42; notes/assumptions 4). -/
def fillSchedule (rows : List Row) (draws : Nat) : Schedule :=
  Vector.ofFn fun i => rows.getD i.val (freeRow (draws + 4 * (i.val - rows.length)))

/-- A new cipher context (R41, R42). -/
def setContext (size : KeySize) (rows : List Row) (s : State) : State :=
  { s with
    ctxValid := true
    ctxKsz := size
    w := fillSchedule rows s.draws
    draws := s.draws + 4 * (60 - rows.length) }

/-- Write of `IE`: the two implemented bits (R35, R76). -/
def setIe (v : Word) (s : State) : State := { s with ie := v.extractLsb' 0 2 }

/-- Write of `KEYk` (R36, R76). -/
def setKey (k : Fin 8) (v : Word) (s : State) : State := { s with key := s.key.set k v }

/-- Write of `DINk` (R37, R76). -/
def setDin (k : Fin 4) (v : Word) (s : State) : State := { s with din := s.din.set k v }

/-- Write of `IVk` (R39, R76). -/
def setIv (k : Fin 4) (v : Word) (s : State) : State := { s with iv := s.iv.set k v }

/-- `BusRead` (R75): a read changes no state (R77), whatever `BUSY` is. -/
def busRead (idx : WordIndex) (s : State) : Word :=
  match regAt idx with
  | .cmd => 0
  | .status => statusWord s
  | .ie => s.ie.setWidth 32
  | .key _ => 0
  | .din k => s.din[k]
  | .dout k => s.dout[k]
  | .iv k => s.iv[k]
  | .reserved => 0

/-- `BusWrite` (R76): writes to `CMD`, `KEYk`, `DINk` and `IVk` are dropped while `BUSY = 1`. -/
def busWrite (idx : WordIndex) (v : Word) (s : State) : State :=
  match regAt idx with
  | .cmd => if s.busy then dropWrite s else issue v s
  | .status => acknowledge v s
  | .ie => setIe v s
  | .key k => if s.busy then dropWrite s else setKey k v s
  | .din k => if s.busy then dropWrite s else setDin k v s
  | .dout _ => s
  | .iv k => if s.busy then dropWrite s else setIv k v s
  | .reserved => s

/-- The host notes what a read returned (notes/assumptions 7). -/
def noteRead (idx : WordIndex) (v : Word) (s : State) : State :=
  { s with reads := ⟨idx, v⟩ :: s.reads }

/-- Reset (R320): every element takes its reset value and a pending command is abandoned (R322).
The host's own side, what it will do and what it has read, is no state of the engine. -/
def hardReset (s : State) : State := State.afterReset s.draws s.agenda s.reads

/-- The events that are to come. -/
def setAgenda (events : List Event) (s : State) : State := { s with agenda := events }

/-- The next event and the state without it. With no event to come, a pending command completes,
as weak fairness asks (R134; notes/assumptions 1). -/
def nextEvent (s : State) : Event × State :=
  match s.agenda with
  | [] => (.complete, s)
  | e :: rest => (e, setAgenda rest s)

end Sys2Proof.Machine
end

