-- ==== Sys2Proof/Machine/Rounds.lean ====
section
/-! DEFINITION. The round transforms on the state matrix and the block functions built from them
(42_block_cipher.md R186 to R194). -/

namespace Sys2Proof.Machine

/-- Row `i` of the schedule. No rule reads a row past 59 (R7, R8; notes/assumptions 13). -/
def scheduleRow (w : Schedule) (i : Nat) : Row := w[i]?.getD (Vector.replicate 4 0)

/-- `AddRoundKey(S, n)`: column `col` is XORed with schedule word `4n + col` (R186). -/
def addRoundKey (w : Schedule) (n : Nat) (S : Matrix) : Matrix :=
  matrixOf fun row col => entry S row col ^^^ (scheduleRow w (4 * n + col.val))[row]

/-- `SubBytes(S)` (R187). -/
def subBytes (S : Matrix) : Matrix := matrixOf fun row col => sbox (entry S row col)

/-- `ShiftRows(S)`: `S'[row][col] = S[row][(col + row) mod 4]` (R188). -/
def shiftRows (S : Matrix) : Matrix := matrixOf fun row col => entry S row (col + row)

/-- One column of `MixColumns` (R189). -/
def mixColumn (a0 a1 a2 a3 : Byte) : Vector Byte 4 :=
  #v[mult2 a0 ^^^ mult3 a1 ^^^ a2 ^^^ a3,
     a0 ^^^ mult2 a1 ^^^ mult3 a2 ^^^ a3,
     a0 ^^^ a1 ^^^ mult2 a2 ^^^ mult3 a3,
     mult3 a0 ^^^ a1 ^^^ a2 ^^^ mult2 a3]

/-- `MixColumns(S)` (R189). -/
def mixColumns (S : Matrix) : Matrix :=
  matrixOf fun row col =>
    (mixColumn (entry S 0 col) (entry S 1 col) (entry S 2 col) (entry S 3 col))[row]

/-- `InvSubBytes(S)` (R190). -/
def invSubBytes (S : Matrix) : Matrix := matrixOf fun row col => invSbox (entry S row col)

/-- `InvShiftRows(S)`: `S'[row][(col + row) mod 4] = S[row][col]` (R191), read the other way round:
the entry at `col` comes from `(col - row) mod 4`. -/
def invShiftRows (S : Matrix) : Matrix := matrixOf fun row col => entry S row (col - row)

/-- One column of `InvMixColumns` (R192). -/
def invMixColumn (a0 a1 a2 a3 : Byte) : Vector Byte 4 :=
  #v[multE a0 ^^^ multB a1 ^^^ multD a2 ^^^ mult9 a3,
     mult9 a0 ^^^ multE a1 ^^^ multB a2 ^^^ multD a3,
     multD a0 ^^^ mult9 a1 ^^^ multE a2 ^^^ multB a3,
     multB a0 ^^^ multD a1 ^^^ mult9 a2 ^^^ multE a3]

/-- `InvMixColumns(S)` (R192). -/
def invMixColumns (S : Matrix) : Matrix :=
  matrixOf fun row col =>
    (invMixColumn (entry S 0 col) (entry S 1 col) (entry S 2 col) (entry S 3 col))[row]

/-- One of the rounds `1..NR-1` of `EncryptBlock` (R193). -/
def encryptRound (w : Schedule) (S : Matrix) (round : Nat) : Matrix :=
  addRoundKey w round (mixColumns (shiftRows (subBytes S)))

/-- One of the rounds `NR-1..1` of `DecryptBlock` (R194). -/
def decryptRound (w : Schedule) (S : Matrix) (round : Nat) : Matrix :=
  invSubBytes (invShiftRows (invMixColumns (addRoundKey w round S)))

/-- `EncryptBlock(b)` under the schedule `w` with `nr` rounds (R193). -/
def encryptBlock (w : Schedule) (nr : Nat) (b : Block) : Block :=
  let S := (List.range' 1 (nr - 1)).foldl (encryptRound w) (addRoundKey w 0 (loadBlock b))
  storeBlock (addRoundKey w nr (shiftRows (subBytes S)))

/-- `DecryptBlock(b)` under the schedule `w` with `nr` rounds (R194). -/
def decryptBlock (w : Schedule) (nr : Nat) (b : Block) : Block :=
  let S := (List.range' 1 (nr - 1)).reverse.foldl (decryptRound w)
    (invSubBytes (invShiftRows (addRoundKey w nr (loadBlock b))))
  storeBlock (addRoundKey w 0 S)

end Sys2Proof.Machine
end

