-- ==== Sys2Proof/Machine/Cipher.lean ====
section
/-! DEFINITION. The family of the block cipher: `ENC` and `DEC` (42_block_cipher.md R196, R197). -/

namespace Sys2Proof.Machine

/-- `EncryptBlock` under the engine's context, `NR` being a function of `CTX_KSZ` (R41, R193). -/
def contextEncrypt (s : State) (b : Block) : Block := encryptBlock s.w s.ctxKsz.nr b

/-- `DecryptBlock` under the engine's context (R41, R194). -/
def contextDecrypt (s : State) (b : Block) : Block := decryptBlock s.w s.ctxKsz.nr b

/-- `ENC` (R196). -/
def execEnc (s : State) : Host.Outcome State Fault Refusal :=
  if s.ctxValid then succeed (setDout (contextEncrypt s (blockOf s.din)) s)
  else reject .noKey s

/-- `DEC` (R197). -/
def execDec (s : State) : Host.Outcome State Fault Refusal :=
  if s.ctxValid then succeed (setDout (contextDecrypt s (blockOf s.din)) s)
  else reject .noKey s

end Sys2Proof.Machine
end

