-- ==== Sys2Proof/Machine/KeySchedule.lean ====
section
/-! DEFINITION. The family of the key schedule: the word functions, the key expansion and `KEYINIT`
(41_key_schedule.md R151 to R153). -/

namespace Sys2Proof.Machine

/-- `RotWord(t)` (R151). -/
def rotWord (t : Row) : Row := #v[t[1], t[2], t[3], t[0]]

/-- `SubWord(t)` (R151). -/
def subWord (t : Row) : Row := t.map sbox

/-- `XorWord(a, b)` (R151). -/
def xorWord (a b : Row) : Row := Vector.zipWith (· ^^^ ·) a b

/-- XOR of a round constant into the first byte of a row (R152). -/
def addRcon (c : Byte) (t : Row) : Row := t.set 0 (t[0] ^^^ c)

/-- The row `t` of R152 that row `r` XORs in, made from the row `r - 1`. -/
def scheduleStep (size : KeySize) (r : Nat) (prev : Row) : Row :=
  if r % size.nk = 0 then addRcon (rcon (r / size.nk)) (subWord (rotWord prev))
  else if 6 < size.nk ∧ r % size.nk = 4 then subWord prev
  else prev

/-- The row at index `i` of a schedule under construction; every index R152 reads is in range. -/
def rowAt (rows : List Row) (i : Nat) : Row := rows.getD i (Vector.replicate 4 0)

/-- The seed rows `W[i] = key[4i .. 4i+3]`, `i` in `0..NK-1` (R152). -/
def seedRows (key : List Byte) (size : KeySize) : List Row :=
  (List.range size.nk).map fun i =>
    Vector.ofFn fun j => key.getD (4 * i + j.val) 0

/-- `count` more rows of R152's loop, after the rows already there. -/
def expandRows (size : KeySize) : Nat → List Row → List Row
  | 0, rows => rows
  | count + 1, rows =>
    let r := rows.length
    let row := xorWord (rowAt rows (r - size.nk)) (scheduleStep size r (rowAt rows (r - 1)))
    expandRows size count (rows ++ [row])

/-- `KeyExpansion(key, NK)`: the `NW` rows of the schedule (R152). -/
def keyExpansion (key : List Byte) (size : KeySize) : List Row :=
  expandRows size (size.nw - size.nk) (seedRows key size)

/-- `KEYINIT`: the context of the key in `KEY0..KEY(NK-1)`; the OFB stream ends and `KS` is kept
(R153). -/
def execKeyinit (size : KeySize) (s : State) : Host.Outcome State Fault Refusal :=
  let rows := keyExpansion (keyBytes size s.key) size
  succeed (setStream s.ks 0 false (setContext size rows s))

end Sys2Proof.Machine
end

