-- ==== Sys2Proof/Machine/Nop.lean ====
section
/-! DEFINITION. The family `NOP` (40_command_lifecycle.md R136). -/

namespace Sys2Proof.Machine

/-- `NOP`: no effect but the completion's own writes (R136). -/
def execNop (s : State) : Host.Outcome State Fault Refusal := succeed s

end Sys2Proof.Machine
end

