-- ==== Sys2Proof/Machine/Ofb.lean ====
section
/-! DEFINITION. The family of the OFB keystream generator: `OFBINIT` and `OFBXOR` (43_ofb.md R241,
R242). -/

namespace Sys2Proof.Machine

/-- What the byte loop of `OFBXOR` leaves: the output bytes `o`, `ks` and `pos` (R242). -/
structure OfbResult where
  out : List Byte
  ks : Block
  pos : BitVec 4
  deriving DecidableEq, Repr

/-- The byte loop of `OFBXOR` over the message bytes that are left: at position 0 the keystream
block is regenerated, then a byte is XORed and the position goes on modulo 16 (R242). -/
def ofbLoop (encrypt : Block → Block) : List Byte → Block → BitVec 4 → OfbResult
  | [], ks, pos => ⟨[], ks, pos⟩
  | m :: rest, ks, pos =>
    let ks' := if pos = 0 then encrypt ks else ks
    let r := ofbLoop encrypt rest ks' (pos + 1)
    ⟨(m ^^^ ks'[pos.toNat]'pos.isLt) :: r.out, r.ks, r.pos⟩

/-- `OFBINIT`: a stream from the current IV, with or without a context (R241). -/
def execOfbinit (s : State) : Host.Outcome State Fault Refusal :=
  succeed (setStream (blockOf s.iv) 0 true s)

/-- `OFBXOR n`: the key is checked before the IV (R242; counts that no word encodes,
notes/assumptions 13). -/
def execOfbxor (n : Nat) (s : State) : Host.Outcome State Fault Refusal :=
  if s.ctxValid then
    if s.ofbReady then
      let r := ofbLoop (contextEncrypt s) (messageBytes n s.din) s.ks s.ofbPos
      succeed (setDout (zeroPadded r.out) (setStream r.ks r.pos s.ofbReady s))
    else reject .noIv s
  else reject .noKey s

end Sys2Proof.Machine
end

