-- ==== Sys2Proof/Machine/Dispatch.lean ====
section
/-! DEFINITION. One arm per command: the whole completion of a decoded command
(40_command_lifecycle.md R132, R133). -/

namespace Sys2Proof.Machine

def exec (i : Instr) (s : State) : Host.Outcome State Fault Refusal :=
  match i with
  | .nop => Sys2Proof.Machine.execNop s
  | .keyinit size => Sys2Proof.Machine.execKeyinit size s
  | .enc => Sys2Proof.Machine.execEnc s
  | .dec => Sys2Proof.Machine.execDec s
  | .ofbinit => Sys2Proof.Machine.execOfbinit s
  | .ofbxor n => Sys2Proof.Machine.execOfbxor n s

end Sys2Proof.Machine
end

