-- ==== Sys2Proof/Machine/Complete.lean ====
section
/-! DEFINITION. The engine's step and the host's steps (40_command_lifecycle.md R132 to R134). -/

namespace Sys2Proof.Machine

/-- `Complete()`: `Execute(PEND)` in one atomic step. A word that does not decode completes with its
code and no other effect (R132, R133). -/
def complete (s : State) : Host.Outcome State Fault Refusal :=
  match decode s.pend with
  | .cmd i => exec i s
  | .reject code => reject code s

/-- What an event does to the state. A completion is enabled exactly while `BUSY = 1` (R134); the
engine's turn in an idle engine passes with no effect (notes/assumptions 1). -/
def perform (e : Event) (s : State) : Host.Outcome State Fault Refusal :=
  match e with
  | .read idx => .next (noteRead idx (busRead idx s) s)
  | .write idx v => .next (busWrite idx v s)
  | .complete => if s.busy then complete s else .next s
  | .reset => .next (hardReset s)

/-- The state with the command word `c` issued and the engine's turn next. -/
def placeCommand (c : Word) (s : State) : State :=
  setAgenda (.complete :: s.agenda) (issue c s)

end Sys2Proof.Machine
end

