-- ==== Sys2Proof/Machine/Step.lean ====
section
/-! DEFINITION. One step of the machine: the next event of the interleaving of host accesses and
completions (20_memory.md R79). -/

namespace Sys2Proof.Machine

/-- One step: the event that is next takes place (R79, R134). -/
def step (s : State) : Host.Outcome State Fault Refusal :=
  perform (nextEvent s).1 (nextEvent s).2

/-- `s` with the command word of `nbits` bits issued (R130) and the engine's turn next, so that the
very next step completes it. The engine fetches nothing (R48): the issued word in `PEND` is what
it runs (notes/assumptions 2). -/
def State.withFetchWord (s : State) (nbits w : Nat) : State :=
  placeCommand (BitVec.ofNat 32 (w % 2 ^ nbits)) s

end Sys2Proof.Machine
end

