-- ==== Sys2Proof/Safety.lean ====
section
/-! DEFINITION. The notions that claims about the engine are stated with: the invariant of its
state, the source's OFB function, a message fed in pieces, and equality up to the unspecified
values. -/

namespace Sys2Proof.Machine

/-- The storage `w` holds, in its first `NW` words, the schedule of some key of this size (R42). -/
def HoldsSchedule (size : KeySize) (w : Schedule) : Prop :=
  ∃ key : Vector Word 8, ∀ r : Nat, r < size.nw →
    w[r]? = (keyExpansion (keyBytes size key) size)[r]?

/-- What holds in every state the engine reaches: an issued command is not yet done (R130, R132),
`KSIZE` reads 0 without a context (R34), the position is 0 without a stream (R43, R153, R241), and
a context is the schedule of some key (R42). -/
def State.Inv (s : State) : Prop :=
  (s.busy = true → s.done = false) ∧
  (s.ctxValid = false → s.ctxKsz = .k128) ∧
  (s.ofbReady = false → s.ofbPos = 0) ∧
  (s.ctxValid = true → HoldsSchedule s.ctxKsz s.w)

/-- The source's byte loop from byte index `i` on, with its keystream block (R240). -/
def ofbRefFrom (encrypt : Block → Block) : Nat → Block → List Byte → List Byte
  | _, _, [] => []
  | i, keystream, m :: rest =>
    let keystream' := if i % 16 = 0 then encrypt keystream else keystream
    (m ^^^ keystream'[i % 16]'(Nat.mod_lt i (by decide))) ::
      ofbRefFrom encrypt (i + 1) keystream' rest

/-- `OfbRef(iv, m)`, the source's `encryptInternal` (R240). -/
def ofbRef (encrypt : Block → Block) (iv : Block) (m : List Byte) : List Byte :=
  ofbRefFrom encrypt 0 iv m

/-- A piece of a message: how many bytes an `OFBXOR` takes, and what the host puts into `DIN`. -/
structure Piece where
  n : Nat
  din : Vector Word 4
  deriving DecidableEq, Repr

/-- The host sets `DIN` and runs `OFBXOR n` for each piece, every command completing with
`ERR = 0`, and collects bytes `0..n-1` of each `DOUT` (R243). -/
def feedPieces : State → List Piece → Option (List Byte × State)
  | s, [] => some ([], s)
  | s, p :: rest =>
    match exec (.ofbxor p.n) { s with din := p.din } with
    | .next t =>
      if t.err = .ok then
        (feedPieces t rest).map fun r => ((blockOf t.dout).toList.take p.n ++ r.1, r.2)
      else none
    | .fault _ => none
    | .refused _ => none

/-- The two states differ at most in what the spec leaves unspecified: `W` without a context, the
words of `W` past `NW` with one, `KS` without a stream, and the model's count of free draws
(R42, R43, R321). -/
def SameSpecified (s t : State) : Prop :=
  t = { s with w := t.w, ks := t.ks, draws := t.draws } ∧
  (s.ctxValid = true → ∀ r : Nat, r < s.ctxKsz.nw → t.w[r]? = s.w[r]?) ∧
  (s.ofbReady = true → t.ks = s.ks)

/-- `k` steps of the machine. -/
def stepsFrom (k : Nat) (s : State) : Host.Outcome State Fault Refusal :=
  Host.Core.run Sys2Proof.core k s

/-- The event is a host access. -/
def Event.isAccess : Event → Bool
  | .read _ => true
  | .write _ _ => true
  | .complete => false
  | .reset => false

/-- The next event of `s` is `e`, and `rest` come after it; with nothing to come it is the engine's
turn (R134; notes/assumptions 1). -/
def State.Next (s : State) (e : Event) (rest : List Event) : Prop :=
  s.agenda = e :: rest ∨ (s.agenda = [] ∧ e = .complete ∧ rest = [])

/-- The 23 words that decode to a command (R107). -/
def commandWords : List Word :=
  [0x00000000, 0x00000001, 0x00000011, 0x00000021, 0x00000002, 0x00000003, 0x00000004] ++
    (List.range 16).map fun k => BitVec.ofNat 32 (5 + 256 * k)

end Sys2Proof.Machine
end

