-- ==== Sys2Proof/Certificates/Slice0/Obligations.lean ====
section
/-! DEFINITION. The statements for the provers. Where a state differs from another only in the
fields it names, a statement says so as `t = { s with … }`, so that it is at once the result and
the frame; the engine has no byte memory (10_state.md R50), so a frame over State is a frame over
everything. -/

open Sys2Proof Sys2Proof.Machine

/-! ### Encoding -/

/-- Decoding the encoding of a well-formed command gives the command, with every operand at every
value the encoding admits (R101, R105, R106). -/
def Obligations.DecodeInvertsEncode : Prop :=
  ∀ i : Instr, i.wf = true → decode (encode i) = .cmd i

/-- A word that decodes to a command is the one encoding of a well-formed command, so no bit of the
word is dropped. -/
def Obligations.DecodedWordIsItsEncoding : Prop :=
  ∀ (c : Word) (i : Instr), decode c = .cmd i → i.wf = true ∧ encode i = c

/-- `Decode` (R103), written with quotients and remainders of the word in place of the model's
fields: the tests in the rule's order, and the command that the opcode numbers. -/
def Obligations.DecodeTestsInOrder : Prop :=
  ∀ c : Word,
    let op := c.toNat % 16
    let ksz := c.toNat / 16 % 4
    let lenm1 := c.toNat / 256 % 16
    let reserved := c.toNat / 4096 ≠ 0 ∨ c.toNat / 64 % 4 ≠ 0
    (6 ≤ op → decode c = .reject .badOp) ∧
    (op < 6 → reserved → decode c = .reject .badField) ∧
    (op < 6 → ¬reserved → op ≠ 1 → ksz ≠ 0 → decode c = .reject .badField) ∧
    (op < 6 → ¬reserved → (op = 1 ∨ ksz = 0) → op ≠ 5 → lenm1 ≠ 0 →
      decode c = .reject .badField) ∧
    (op = 1 → ¬reserved → lenm1 = 0 → ksz = 3 → decode c = .reject .badKsz) ∧
    (op = 1 → ¬reserved → lenm1 = 0 → ksz ≠ 3 →
      ∃ size : KeySize, size.nk = 4 + 2 * ksz ∧ decode c = .cmd (.keyinit size)) ∧
    (¬reserved → ksz = 0 → lenm1 = 0 →
      (op = 0 → decode c = .cmd .nop) ∧ (op = 2 → decode c = .cmd .enc) ∧
      (op = 3 → decode c = .cmd .dec) ∧ (op = 4 → decode c = .cmd .ofbinit)) ∧
    (¬reserved → ksz = 0 → op = 5 → decode c = .cmd (.ofbxor (lenm1 + 1)))

/-- The count check of 30_encoding.md section 2: exactly 23 of the 2^32 words decode to a command.
The spec marks the count as derived from R103. -/
def Obligations.ExactlyTwentyThreeWordsDecode : Prop :=
  commandWords.Nodup ∧ commandWords.length = 23 ∧
  ∀ c : Word, (∃ i, decode c = .cmd i) ↔ c ∈ commandWords

/-- Words written out bit by bit from R101 and R102 decode to the commands they stand for. -/
def Obligations.WrittenOutWordsDecode : Prop :=
  decode 0b00000000000000000000_0000_00_00_0000#32 = .cmd .nop ∧
  decode 0b00000000000000000000_0000_00_10_0001#32 = .cmd (.keyinit .k256) ∧
  decode 0b00000000000000000000_0000_00_00_0010#32 = .cmd .enc ∧
  decode 0b00000000000000000000_0000_00_00_0011#32 = .cmd .dec ∧
  decode 0b00000000000000000000_0000_00_00_0100#32 = .cmd .ofbinit ∧
  decode 0b00000000000000000000_1011_00_00_0101#32 = .cmd (.ofbxor 12)

/-! ### Issue and completion -/

/-- Issue (R130): a write of any word to `CMD` of an idle engine captures the word, sets `BUSY` and
clears `DONE`; nothing else of the engine changes, `ERR` among it, and the word is not checked. -/
def Obligations.IssueCapturesAnyWord : Prop :=
  ∀ (c : Word) (s : State) (rest : List Event),
    s.agenda = .write 0 c :: rest → s.busy = false →
    step s = .next { s with pend := c, busy := true, done := false, agenda := rest }

/-- A write to `CMD` of a busy engine is dropped (R131): `OVR` is set, everything else is kept and
the word is lost. -/
def Obligations.CommandWriteWhileBusyIsDropped : Prop :=
  ∀ (c : Word) (s : State) (rest : List Event),
    s.agenda = .write 0 c :: rest → s.busy = true →
    step s = .next { s with ovr := true, agenda := rest }

/-- A step of the engine runs the decoded command: where the pending word decodes to a command and
the engine's turn is next, the step is `exec` of it, with the turn taken off the agenda. That an
empty agenda is the engine's turn is the model's choice (notes/assumptions 1). -/
def Obligations.StepRunsTheDecodedCommand : Prop :=
  ∀ (i : Instr) (s : State) (rest : List Event),
    s.Next .complete rest → s.busy = true → decode s.pend = .cmd i →
    step s = exec i { s with agenda := rest }

/-- A step of the engine on a word that `Decode` rejects completes with the code and changes nothing
but `ERR`, `BUSY` and `DONE` (R107, R132, R133). The agenda is the model's own
(notes/assumptions 1). -/
def Obligations.RejectedWordLeavesOnlyItsCode : Prop :=
  ∀ (code : ErrCode) (s : State) (rest : List Event),
    s.Next .complete rest → s.busy = true → decode s.pend = .reject code →
    step s = .next { s with err := code, busy := false, done := true, agenda := rest }

/-- `NOP` (R136): its only word is 0, every other word with that opcode is rejected with `BAD_FIELD`;
it completes in every state, with or without a context or a stream, and changes nothing but
`ERR`, `BUSY` and `DONE`; issued and completed from reset it leaves `STATUS` at 8. -/
def Obligations.NopOnlyCompletes : Prop :=
  decode 0x00000000 = .cmd .nop ∧
  (∀ c : Word, c.toNat % 16 = 0 → c ≠ 0 → decode c = .reject .badField) ∧
  (∀ s : State, exec .nop s = .next { s with err := .ok, busy := false, done := true }) ∧
  ∃ t, exec .nop (issue 0x00000000 State.reset) = .next t ∧ busRead (wordIndex 0x04) t = 0x00000008

/-- Every command completes in every state: it ends with `BUSY = 0` and `DONE = 1`, and it leaves
the host's agenda and its record of reads alone, which are the model's own (notes/assumptions 1
and 7) (R132; 93_implementation_defined.md part 1, last sentence). -/
def Obligations.EveryCommandCompletes : Prop :=
  ∀ (i : Instr) (s : State), ∃ t, exec i s = .next t ∧ t.busy = false ∧ t.done = true ∧
    t.agenda = s.agenda ∧ t.reads = s.reads

/-- No event stops the engine: every step of every state is followed by a state (R270). The agenda,
with the idle turn of an engine that has nothing to do, is the model's own
(notes/assumptions 1). -/
def Obligations.EveryStepGoesOn : Prop := ∀ s : State, ∃ t, step s = .next t

/-- A command that ends with an error code has no other effect: nothing but `ERR`, `BUSY` and `DONE`
is written (R133). -/
def Obligations.FailedCommandHasNoOtherEffect : Prop :=
  ∀ (i : Instr) (s t : State), exec i s = .next t → t.err ≠ .ok →
    t = { s with err := t.err, busy := false, done := true }

/-- The code that a completion leaves in `ERR`, for every pending word and state: the first cause in
the order of R272, which the spec marks as derived, with the causes of R271. That an empty agenda
is the engine's turn is the model's choice (notes/assumptions 1). -/
def Obligations.CompletionCodeByPriority : Prop :=
  ∀ (s : State) (rest : List Event), s.Next .complete rest → s.busy = true →
    let c := s.pend.toNat
    let op := c % 16
    let ksz := c / 16 % 4
    let lenm1 := c / 256 % 16
    ∃ t, step s = .next t ∧ t.err =
      if 6 ≤ op then .badOp
      else if c / 4096 ≠ 0 ∨ c / 64 % 4 ≠ 0 ∨ (ksz ≠ 0 ∧ op ≠ 1) ∨ (lenm1 ≠ 0 ∧ op ≠ 5) then
        .badField
      else if op = 1 ∧ ksz = 3 then .badKsz
      else if (op = 2 ∨ op = 3 ∨ op = 5) ∧ s.ctxValid = false then .noKey
      else if op = 5 ∧ s.ofbReady = false then .noIv
      else .ok

/-! ### Bus accesses, flags and the interrupt -/

/-- Every host write (R76), by the word index `n` of its offset `4n`: what it writes when the engine
is idle, and that a write to `CMD`, `KEYk`, `DINk` or `IVk` of a busy engine sets `OVR` and
nothing else. -/
def Obligations.HostWriteByRegister : Prop :=
  ∀ (s : State) (idx : WordIndex) (v : Word) (rest : List Event),
    s.agenda = .write idx v :: rest →
    let n := idx.toNat
    let dropped : State := { s with ovr := true, agenda := rest }
    (n = 0 → step s = .next (if s.busy then dropped
      else { s with pend := v, busy := true, done := false, agenda := rest })) ∧
    (n = 1 → step s = .next { s with
      done := if v.getLsbD 3 then false else s.done,
      ovr := if v.getLsbD 4 then false else s.ovr, agenda := rest }) ∧
    (n = 2 → step s = .next { s with ie := v.extractLsb' 0 2, agenda := rest }) ∧
    (∀ k : Fin 8, n = 4 + k.val → step s = .next (if s.busy then dropped
      else { s with key := s.key.set k v, agenda := rest })) ∧
    (∀ k : Fin 4, n = 12 + k.val → step s = .next (if s.busy then dropped
      else { s with din := s.din.set k v, agenda := rest })) ∧
    (∀ k : Fin 4, n = 20 + k.val → step s = .next (if s.busy then dropped
      else { s with iv := s.iv.set k v, agenda := rest })) ∧
    (n = 3 ∨ (16 ≤ n ∧ n < 20) ∨ 24 ≤ n → step s = .next { s with agenda := rest })

/-- Every host read (R75), by the word index `n` of its offset `4n`, whatever `BUSY` is: the value
the step records as returned. `STATUS` is the value composed as R34 gives it. `DOUT` keeps its
value over every step that leaves a command pending, so a read meets the value from before the
command. That a read is recorded in `reads` is the model's own (notes/assumptions 7). -/
def Obligations.HostReadByRegister : Prop :=
  (∀ (s : State) (idx : WordIndex) (rest : List Event),
    s.agenda = .read idx :: rest →
    let n := idx.toNat
    ∃ v : Word, step s = .next { s with agenda := rest, reads := ⟨idx, v⟩ :: s.reads } ∧
    (n = 1 → v.toNat = s.err.code.toNat * 4096 + s.ofbPos.toNat * 256 + s.ctxKsz.code.toNat * 64 +
      s.ovr.toNat * 16 + s.done.toNat * 8 + s.ofbReady.toNat * 4 + s.ctxValid.toNat * 2 +
      s.busy.toNat) ∧
    (n = 2 → v.toNat = s.ie.toNat) ∧
    (∀ k : Fin 4, n = 12 + k.val → v = s.din[k]) ∧
    (∀ k : Fin 4, n = 16 + k.val → v = s.dout[k]) ∧
    (∀ k : Fin 4, n = 20 + k.val → v = s.iv[k]) ∧
    (n = 0 ∨ n = 3 ∨ (4 ≤ n ∧ n < 12) ∨ 24 ≤ n → v = 0)) ∧
  ∀ s t : State, step s = .next t → t.busy = true → t.dout = s.dout

/-- A read of `STATUS` shows each field of R34 at its bits, the reserved bits as 0, an error code of
at most 5 (R271) and a key-size code of at most 2 (R41). -/
def Obligations.StatusShowsItsFields : Prop :=
  ∀ s : State,
    let v := busRead (wordIndex 0x04) s
    v.getLsbD 0 = s.busy ∧ v.getLsbD 1 = s.ctxValid ∧ v.getLsbD 2 = s.ofbReady ∧
    v.getLsbD 3 = s.done ∧ v.getLsbD 4 = s.ovr ∧ v.getLsbD 5 = false ∧
    v.extractLsb' 6 2 = s.ctxKsz.code ∧ v.extractLsb' 8 4 = s.ofbPos ∧
    v.extractLsb' 12 4 = s.err.code ∧ v.extractLsb' 16 16 = 0 ∧
    (v.extractLsb' 12 4).toNat ≤ 5 ∧ (v.extractLsb' 6 2).toNat ≤ 2

/-- Reads change no state and are idempotent, and every write but one to `CMD` is idempotent (R77). A
read leaves every element of the engine as it was; two reads of one register with nothing between
them return the same value and leave every element as it was; a second equal write right after
the first changes nothing more. That a read is recorded in `reads` is the model's own
(notes/assumptions 7), and so is the agenda (notes/assumptions 1). -/
def Obligations.AccessesAreIdempotent : Prop :=
  (∀ (s : State) (idx : WordIndex) (rest : List Event), s.agenda = .read idx :: rest →
    ∃ v : Word, step s = .next { s with agenda := rest, reads := ⟨idx, v⟩ :: s.reads }) ∧
  (∀ (s : State) (idx : WordIndex) (rest : List Event),
    s.agenda = .read idx :: .read idx :: rest →
    ∃ v : Word, stepsFrom 2 s =
      .next { s with agenda := rest, reads := ⟨idx, v⟩ :: ⟨idx, v⟩ :: s.reads }) ∧
  (∀ (s : State) (idx jdx : WordIndex) (v : Word),
    busRead jdx (noteRead idx v s) = busRead jdx s) ∧
  (∀ (s : State) (idx : WordIndex) (v : Word), idx ≠ 0 →
    busWrite idx v (busWrite idx v s) = busWrite idx v s)

/-- What the host wrote to `DINk` or `IVk` of an idle engine reads back (R37, R39); the two
implemented bits of `IE` read back and the others read 0 (R35); a key register reads 0 whatever
it holds (R36). -/
def Obligations.WrittenRegisterReadsBack : Prop :=
  ∀ (s : State) (v : Word), s.busy = false →
    (∀ k : Fin 4, busRead (BitVec.ofNat 6 (12 + k.val))
      (busWrite (BitVec.ofNat 6 (12 + k.val)) v s) = v) ∧
    (∀ k : Fin 4, busRead (BitVec.ofNat 6 (20 + k.val))
      (busWrite (BitVec.ofNat 6 (20 + k.val)) v s) = v) ∧
    (busRead 2 (busWrite 2 v s)).toNat = v.toNat % 4 ∧
    (∀ k : Fin 8, (busWrite (BitVec.ofNat 6 (4 + k.val)) v s).key[k] = v ∧
      busRead (BitVec.ofNat 6 (4 + k.val)) (busWrite (BitVec.ofNat 6 (4 + k.val)) v s) = 0)

/-- The interrupt output in terms of what the host reads: `DONE` and `OVR` in `STATUS`, the enables
in `IE` (R47); it is 0 after reset. -/
def Obligations.InterruptFollowsStatusAndEnables : Prop :=
  (∀ s : State, irq s =
    (((busRead 1 s).getLsbD 3 && (busRead 2 s).getLsbD 0) ||
     ((busRead 1 s).getLsbD 4 && (busRead 2 s).getLsbD 1))) ∧
  irq State.reset = false

/-- Enabling a source whose bit is already 1 raises `irq` at once, and acknowledging both sources
lowers it, whatever the enables are (R274). -/
def Obligations.EnablingAPendingSourceInterrupts : Prop :=
  ∀ (s : State) (v : Word),
    (s.done = true → v.getLsbD 0 = true → irq (busWrite 2 v s) = true) ∧
    (s.ovr = true → v.getLsbD 1 = true → irq (busWrite 2 v s) = true) ∧
    (v.getLsbD 3 = true → v.getLsbD 4 = true → irq (busWrite 1 v s) = false)

/-- The sticky bits change only where R34 and R274 say, over a whole step. `OVR` is cleared only by a
write of 1 to `STATUS[4]` or reset and set only by a dropped write; `DONE` is cleared only by an
issue, a write of 1 to `STATUS[3]` or reset and set only by a completion. The agenda is the
model's own (notes/assumptions 1). -/
def Obligations.StickyBitsChangeOnlyAsListed : Prop :=
  ∀ s t : State, step s = .next t →
    (s.ovr = true → t.ovr = false → (∃ rest, s.agenda = .reset :: rest) ∨
      ∃ v rest, s.agenda = .write 1 v :: rest ∧ v.getLsbD 4 = true) ∧
    (s.ovr = false → t.ovr = true → s.busy = true ∧ ∃ idx v rest,
      s.agenda = .write idx v :: rest ∧
      (idx.toNat = 0 ∨ (4 ≤ idx.toNat ∧ idx.toNat < 16) ∨ (20 ≤ idx.toNat ∧ idx.toNat < 24))) ∧
    (s.done = true → t.done = false → (∃ rest, s.agenda = .reset :: rest) ∨
      (∃ v rest, s.agenda = .write 1 v :: rest ∧ v.getLsbD 3 = true) ∨
      (s.busy = false ∧ ∃ c rest, s.agenda = .write 0 c :: rest)) ∧
    (s.done = false → t.done = true → s.busy = true ∧ ∃ rest, s.Next .complete rest)

/-! ### Byte order -/

/-- The byte order of registers and blocks (R71) and the state matrix (R73): byte `4k + j` of a block
is bits `31 - 8j` to `24 - 8j` of word `k`, written here as a quotient; `WordsOf` is the inverse
and packs four bytes, the first most significant; block byte `col * 4 + row` is the matrix entry
at `row` and `col`, for `Load` and for `Store`, its inverse. -/
def Obligations.BlockConversionsAreInverse : Prop :=
  (∀ (v : Vector Word 4) (k j : Fin 4),
    ((blockOf v)[4 * k.val + j.val]'(by omega)).toNat = v[k].toNat / 2 ^ (24 - 8 * j.val) % 256) ∧
  (∀ (b : Block) (k : Fin 4), (wordsOf b)[k].toNat =
    (b[4 * k.val]'(by omega)).toNat * 2 ^ 24 + (b[4 * k.val + 1]'(by omega)).toNat * 2 ^ 16 +
    (b[4 * k.val + 2]'(by omega)).toNat * 2 ^ 8 + (b[4 * k.val + 3]'(by omega)).toNat) ∧
  (∀ b : Block, blockOf (wordsOf b) = b) ∧ (∀ v : Vector Word 4, wordsOf (blockOf v) = v) ∧
  (∀ (b : Block) (row col : Fin 4),
    (loadBlock b)[row][col] = b[col.val * 4 + row.val]'(by omega)) ∧
  (∀ (S : Matrix) (row col : Fin 4),
    (storeBlock S)[col.val * 4 + row.val]'(by omega) = S[row][col]) ∧
  (∀ b : Block, storeBlock (loadBlock b) = b) ∧ (∀ S : Matrix, loadBlock (storeBlock S) = S)

/-! ### Field arithmetic, tables and transforms -/

/-- `gmul` is the multiplication of a commutative ring of bytes: it distributes over XOR on both
sides, commutes, associates, and has the unit 1 (R180, whose polynomial the spec supplies from
general knowledge; R181). -/
def Obligations.FieldMultiplicationLaws : Prop :=
  ∀ a b c : Byte,
    gmul (a ^^^ b) c = gmul a c ^^^ gmul b c ∧ gmul a (b ^^^ c) = gmul a b ^^^ gmul a c ∧
    gmul a b = gmul b a ∧ gmul (gmul a b) c = gmul a (gmul b c) ∧ gmul a 1 = a ∧
    gmul a 2 = xtime a

/-- The printed MULT tables are the field products `gmul(x, k)` and the printed round constants are
`xtime^(i-1)(1)` (R150, R182; the contents are the spec's from general knowledge). -/
def Obligations.TablesAreFieldProducts : Prop :=
  (∀ x : Byte, mult2 x = gmul x 0x02 ∧ mult3 x = gmul x 0x03 ∧ mult9 x = gmul x 0x09 ∧
    multB x = gmul x 0x0b ∧ multD x = gmul x 0x0d ∧ multE x = gmul x 0x0e) ∧
  (∀ i : Nat, 1 ≤ i → i ≤ 10 → rcon i = xtimeIter (i - 1) 1)

/-- `SBOX[x] = A(inv(x))` (R183; the contents are the spec's from general knowledge): every byte but 0
has an inverse under `gmul`, `SBOX` is the affine map of it, `inv(0) = 0`, and `INVSBOX` inverts
`SBOX` on both sides (R184). -/
def Obligations.SboxIsAffineOfInverse : Prop :=
  let A := fun b : Byte => b ^^^ b.rotateLeft 1 ^^^ b.rotateLeft 2 ^^^ b.rotateLeft 3 ^^^
    b.rotateLeft 4 ^^^ 0x63
  (∀ x : Byte, x ≠ 0 → ∃ y, gmul x y = 1) ∧
  (∀ x y : Byte, gmul x y = 1 → sbox x = A y) ∧ sbox 0 = A 0 ∧
  (∀ x : Byte, invSbox (sbox x) = x ∧ sbox (invSbox x) = x)

/-- `MixColumns` and `InvMixColumns` are the products with the circulant matrices of R189 and R192
over GF(2^8) (the matrices are the spec's from general knowledge): the coefficient of `a_k` in row
`r` is number `k - r mod 4` of the first row. -/
def Obligations.MixColumnsIsAMatrixProduct : Prop :=
  ∀ (S : Matrix) (row col : Fin 4),
    let product := fun m : Vector Byte 4 =>
      gmul S[0][col] m[0 - row] ^^^ gmul S[1][col] m[1 - row] ^^^
      gmul S[2][col] m[2 - row] ^^^ gmul S[3][col] m[3 - row]
    (mixColumns S)[row][col] = product #v[0x02, 0x03, 0x01, 0x01] ∧
    (invMixColumns S)[row][col] = product #v[0x0e, 0x0b, 0x0d, 0x09]

/-- Each inverse transform undoes its transform on every state matrix, and a round key added twice
cancels (R186 to R192; that R191 and R192 give inverses is the spec's own inference). -/
def Obligations.TransformsAreUndone : Prop :=
  ∀ S : Matrix,
    invSubBytes (subBytes S) = S ∧ subBytes (invSubBytes S) = S ∧
    invShiftRows (shiftRows S) = S ∧ shiftRows (invShiftRows S) = S ∧
    invMixColumns (mixColumns S) = S ∧ mixColumns (invMixColumns S) = S ∧
    ∀ (w : Schedule) (n : Nat), addRoundKey w n (addRoundKey w n S) = S

/-- `EncryptBlock` (R193) byte by byte: the matrix `S r` after round `r`, each entry from the one
before by `SBOX`, the rotation of the rows, the matrix `02 03 01 01` over GF(2^8) and the round
key; the final round without `MixColumns`. The byte mapping of the round key and the matrix are
the spec's from general knowledge (R186, R189). -/
def Obligations.EncryptBlockByRounds : Prop :=
  ∀ (w : Schedule) (nr : Nat) (b : Block), 1 ≤ nr → ∀ hw : nr ≤ 14, ∃ S : Nat → Matrix,
    (∀ row col : Fin 4, (S 0)[row][col] =
      b[4 * col.val + row.val]'(by omega) ^^^ (w[col.val]'(by omega))[row]) ∧
    (∀ (r : Nat) (hr : r + 1 < nr) (row col : Fin 4),
      let a := fun k : Fin 4 => sbox (S r)[k][col + k]
      (S (r + 1))[row][col] = gmul (a row) 0x02 ^^^ gmul (a (row + 1)) 0x03 ^^^ a (row + 2) ^^^
        a (row + 3) ^^^ (w[4 * (r + 1) + col.val]'(by omega))[row]) ∧
    ∀ row col : Fin 4, (encryptBlock w nr b)[4 * col.val + row.val]'(by omega) =
      sbox (S (nr - 1))[row][col + row] ^^^ (w[4 * nr + col.val]'(by omega))[row]

/-- `DecryptBlock` (R194) byte by byte: the matrix `S r` from which round `r` starts, the rounds going
down, each entry by the round key, the matrix `0e 0b 0d 09` over GF(2^8), the rotation back of the
rows and `INVSBOX`. The byte mapping of the round key and the matrix are the spec's from general
knowledge (R186, R192). -/
def Obligations.DecryptBlockByRounds : Prop :=
  ∀ (w : Schedule) (nr : Nat) (b : Block), 1 ≤ nr → ∀ hw : nr ≤ 14, ∃ S : Nat → Matrix,
    (∀ row col : Fin 4, (S (nr - 1))[row][col + row] =
      invSbox (b[4 * col.val + row.val]'(by omega) ^^^ (w[4 * nr + col.val]'(by omega))[row])) ∧
    (∀ (r : Nat) (hr : r + 1 < nr) (row col : Fin 4),
      let a := fun k : Fin 4 =>
        (S (r + 1))[k][col] ^^^ (w[4 * (r + 1) + col.val]'(by omega))[k]
      (S r)[row][col + row] = invSbox (gmul (a row) 0x0e ^^^ gmul (a (row + 1)) 0x0b ^^^
        gmul (a (row + 2)) 0x0d ^^^ gmul (a (row + 3)) 0x09)) ∧
    ∀ row col : Fin 4, (decryptBlock w nr b)[4 * col.val + row.val]'(by omega) =
      (S 0)[row][col] ^^^ (w[col.val]'(by omega))[row]

/-- Decryption undoes encryption and encryption undoes decryption, for every schedule, every round
count and every block (R195). -/
def Obligations.DecryptionUndoesEncryption : Prop :=
  ∀ (w : Schedule) (nr : Nat) (b : Block),
    decryptBlock w nr (encryptBlock w nr b) = b ∧ encryptBlock w nr (decryptBlock w nr b) = b

/-! ### KEYINIT -/

/-- `KeyExpansion` (R152): the length, the seed rows, and every later row as the XOR of the row `NK`
earlier with the row before it, rotated, substituted and XORed with the round constant where `NK`
divides its index, substituted only at index 4 modulo 8 of an AES-256 schedule. Two clauses are
not R152's own words: that rotation and substitution commute is an inference the rule marks as
derived, and that a key which is not `4 * NK` bytes long reads as 0 past its end is the model's
(notes/assumptions 13). -/
def Obligations.KeyExpansionRows : Prop :=
  (∀ (size : KeySize) (key : List Byte) (W : List Row), W = keyExpansion key size →
    W.length = size.nw ∧
    (∀ i j : Nat, i < size.nk → j < 4 → (rowAt W i)[j]? = some (key.getD (4 * i + j) 0)) ∧
    ∀ r : Nat, size.nk ≤ r → r < size.nw →
      let p := rowAt W (r - 1)
      let e := rowAt W (r - size.nk)
      rowAt W r =
        if r % size.nk = 0 then
          #v[e[0] ^^^ (sbox p[1] ^^^ rcon (r / size.nk)), e[1] ^^^ sbox p[2], e[2] ^^^ sbox p[3],
            e[3] ^^^ sbox p[0]]
        else if size = .k256 ∧ r % 8 = 4 then
          #v[e[0] ^^^ sbox p[0], e[1] ^^^ sbox p[1], e[2] ^^^ sbox p[2], e[3] ^^^ sbox p[3]]
        else #v[e[0] ^^^ p[0], e[1] ^^^ p[1], e[2] ^^^ p[2], e[3] ^^^ p[3]]) ∧
  KeySize.k128.nw = 44 ∧ KeySize.k192.nw = 52 ∧ KeySize.k256.nw = 60 ∧
  ∀ t : Row, subWord (rotWord t) = rotWord (subWord t)

/-- The round constants that the key expansion reads are numbers 1 to 10, 1 to 8 and 1 to 7 of the
table for the three key sizes (R155, which the spec marks as derived). A row whose index `NK`
divides takes in round constant number `r / NK`, which lies in that range; every other row takes
in none; that is how each row of the schedule of every key is made; and each number of the range
is read by some row. -/
def Obligations.RoundConstantIndexInTable : Prop :=
  ∀ size : KeySize,
    let last := match size with
      | .k128 => 10
      | .k192 => 8
      | .k256 => 7
    (∀ r : Nat, size.nk ≤ r → r < size.nw →
      (r % size.nk = 0 → ∃ i : Nat, i = r / size.nk ∧ 1 ≤ i ∧ i ≤ last ∧ ∀ prev : Row,
        scheduleStep size r prev = addRcon (rcon i) (subWord (rotWord prev))) ∧
      (r % size.nk ≠ 0 → (∀ prev : Row, scheduleStep size r prev = prev) ∨
        ∀ prev : Row, scheduleStep size r prev = subWord prev) ∧
      ∀ key : List Byte, rowAt (keyExpansion key size) r =
        xorWord (rowAt (keyExpansion key size) (r - size.nk))
          (scheduleStep size r (rowAt (keyExpansion key size) (r - 1)))) ∧
    ∀ i : Nat, 1 ≤ i → i ≤ last →
      ∃ r : Nat, size.nk ≤ r ∧ r < size.nw ∧ r % size.nk = 0 ∧ r / size.nk = i

/-- `KEYINIT` completes in every state (R153): the first `NW` words of `W` are the key expansion of
the bytes of `KEY0..KEY(NK-1)`, the context is valid with its key size, the OFB stream ends, and
nothing else changes. The words past `NW` and the count of free draws are left open
(notes/assumptions 4). -/
def Obligations.KeyinitBuildsTheContext : Prop :=
  ∀ (size : KeySize) (s : State), ∃ t : State, exec (.keyinit size) s = .next t ∧
    (∀ r : Nat, r < size.nw → t.w[r]? = (keyExpansion (keyBytes size s.key) size)[r]?) ∧
    (keyBytes size s.key).length = 4 * size.nk ∧
    (∀ (k : Fin 8) (j : Fin 4), k.val < size.nk → (keyBytes size s.key)[4 * k.val + j.val]? =
      some (BitVec.ofNat 8 (s.key[k].toNat / 2 ^ (24 - 8 * j.val)))) ∧
    t = { s with
      ctxValid := true, ctxKsz := size, w := t.w, draws := t.draws, ofbReady := false, ofbPos := 0,
      err := .ok, busy := false, done := true }

/-- Only `KEYINIT` reads the key registers, and it reads only `KEY0..KEY(NK-1)` (R36); only `OFBINIT`
reads the `IV` registers (R39); only `ENC`, `DEC` and `OFBXOR` read `DIN` (R37): a command gives
the same from a state in which registers it does not read hold other values, but for those
registers themselves. -/
def Obligations.CommandsReadOnlyTheirOperands : Prop :=
  ∀ (s t : State) (key : Vector Word 8) (din iv : Vector Word 4) (i : Instr),
    exec i s = .next t →
    (match i with
      | .keyinit size => ∀ k : Fin 8, k.val < size.nk → key[k] = s.key[k]
      | .enc => din = s.din
      | .dec => din = s.din
      | .ofbinit => iv = s.iv
      | .ofbxor _ => din = s.din
      | .nop => True) →
    exec i { s with key := key, din := din, iv := iv } =
      .next { t with key := key, din := din, iv := iv }

/-- Only a successful `KEYINIT` and reset change the context and its schedule, over a whole step
(R41, R154). The agenda is the model's own (notes/assumptions 1). -/
def Obligations.OnlyKeyinitAndResetChangeTheContext : Prop :=
  ∀ s t : State, step s = .next t →
    ¬(t.ctxValid = s.ctxValid ∧ t.ctxKsz = s.ctxKsz ∧ t.w = s.w) →
    (∃ rest, s.agenda = .reset :: rest) ∨
    (s.busy = true ∧ t.err = .ok ∧ (∃ rest, s.Next .complete rest) ∧
      ∃ size, decode s.pend = .cmd (.keyinit size))

/-! ### ENC and DEC -/

/-- `ENC` with a context completes (R196): `DOUT` holds the encrypted `DIN` block and nothing else
changes but `ERR`, `BUSY` and `DONE`. -/
def Obligations.EncWritesTheEncryptedBlock : Prop :=
  ∀ s : State, s.ctxValid = true → ∃ t, exec .enc s = .next t ∧
    blockOf t.dout = encryptBlock s.w s.ctxKsz.nr (blockOf s.din) ∧
    t = { s with dout := t.dout, err := .ok, busy := false, done := true }

/-- `DEC` with a context completes (R197): `DOUT` holds the decrypted `DIN` block and nothing else
changes but `ERR`, `BUSY` and `DONE`. -/
def Obligations.DecWritesTheDecryptedBlock : Prop :=
  ∀ s : State, s.ctxValid = true → ∃ t, exec .dec s = .next t ∧
    blockOf t.dout = decryptBlock s.w s.ctxKsz.nr (blockOf s.din) ∧
    t = { s with dout := t.dout, err := .ok, busy := false, done := true }

/-- Without a context `ENC`, `DEC` and `OFBXOR` are rejected with `NO_KEY`, whether or not there is a
stream; with a context and no stream `OFBXOR` is rejected with `NO_IV` (R196, R197, R242). -/
def Obligations.CommandsWithoutKeyOrIvAreRejected : Prop :=
  ∀ (s : State) (n : Nat),
    (s.ctxValid = false →
      let rejected : State := { s with err := .noKey, busy := false, done := true }
      exec .enc s = .next rejected ∧ exec .dec s = .next rejected ∧
      exec (.ofbxor n) s = .next rejected) ∧
    (s.ctxValid = true → s.ofbReady = false →
      exec (.ofbxor n) s = .next { s with err := .noIv, busy := false, done := true })

/-- Block symmetry on the engine (R195): with a context, `ENC`, then `DOUT` copied to `DIN`, then
`DEC` gives the first `DIN` back, and so does `DEC` followed by `ENC`. -/
def Obligations.EngineBlockSymmetry : Prop :=
  ∀ s : State, s.ctxValid = true →
    (∃ t u, exec .enc s = .next t ∧ exec .dec { t with din := t.dout } = .next u ∧
      u.dout = s.din) ∧
    (∃ t u, exec .dec s = .next t ∧ exec .enc { t with din := t.dout } = .next u ∧
      u.dout = s.din)

/-! ### OFBINIT and OFBXOR -/

/-- `OFBINIT` (R241): its only word is 4, every other word with that opcode is rejected with
`BAD_FIELD`; it completes in every state, with or without a context and in the middle of a
stream: byte `4k + j` of `KS` is byte `j` of `IVk`, the position is 0, the stream is ready, and
nothing else changes but `ERR`, `BUSY` and `DONE`; a host write, to `IVk` or any other register,
does not change `KS`. -/
def Obligations.OfbinitStartsAStream : Prop :=
  decode 0x00000004 = .cmd .ofbinit ∧
  (∀ c : Word, c.toNat % 16 = 4 → c ≠ 4 → decode c = .reject .badField) ∧
  (∀ s : State, ∃ t, exec .ofbinit s = .next t ∧
    (∀ k j : Fin 4, (t.ks[4 * k.val + j.val]'(by omega)).toNat =
      s.iv[k].toNat / 2 ^ (24 - 8 * j.val) % 256) ∧
    t = { s with
      ks := t.ks, ofbPos := 0, ofbReady := true, err := .ok, busy := false, done := true }) ∧
  ∀ (idx : WordIndex) (v : Word) (s : State), (busWrite idx v s).ks = s.ks

/-- `OFBXOR n` with a context and a stream completes (R242): byte `j < n` of `DOUT` is the message
byte XORed with byte `p + j mod 16` of the current keystream block, or of the next one where the
position has reached 0; the bytes from `n` on are 0; the position goes on by `n` modulo 16; the
block is regenerated at most once (R247, which the spec marks as derived); and nothing else
changes but `ERR`, `BUSY` and `DONE`. -/
def Obligations.OfbxorXorsTheKeystream : Prop :=
  ∀ (n : Nat) (s : State), 1 ≤ n → n ≤ 16 → s.ctxValid = true → s.ofbReady = true →
    let p := s.ofbPos.toNat
    let following := encryptBlock s.w s.ctxKsz.nr s.ks
    ∃ t, exec (.ofbxor n) s = .next t ∧
      (∀ j : Fin 16, (blockOf t.dout)[j] =
        if j.val < n then
          (blockOf s.din)[j] ^^^
            (if p = 0 ∨ 16 ≤ p + j.val then following else s.ks)[(p + j.val) % 16]'(by omega)
        else 0) ∧
      t.ks = (if p = 0 ∨ 16 < p + n then following else s.ks) ∧
      t.ofbPos.toNat = (p + n) % 16 ∧
      t = { s with
        dout := t.dout, ks := t.ks, ofbPos := t.ofbPos, err := .ok, busy := false, done := true }

/-- Chunking equivalence (R243, which the spec marks as derived): with a context, an `OFBINIT`
followed by one `OFBXOR` for each piece of 1 to 16 bytes gives, over all the pieces, the source's
`OfbRef` of the whole message (R240). -/
def Obligations.ChunkedStreamEqualsTheReference : Prop :=
  ∀ (s : State) (pieces : List Piece), s.ctxValid = true →
    (∀ p ∈ pieces, 1 ≤ p.n ∧ p.n ≤ 16) →
    ∃ s₀ t, exec .ofbinit s = .next s₀ ∧
      feedPieces s₀ pieces = some
        (ofbRef (encryptBlock s.w s.ctxKsz.nr) (blockOf s.iv)
          (pieces.flatMap fun p => (blockOf p.din).toList.take p.n), t)

/-- OFB decryption is OFB encryption (R244, whose second sentence the spec marks as derived): the
source's function applied twice gives the message back, and so does an `OFBXOR n` of the engine
run again on its output from the same stream. -/
def Obligations.OfbIsItsOwnInverse : Prop :=
  (∀ (encrypt : Block → Block) (iv : Block) (m : List Byte),
    ofbRef encrypt iv (ofbRef encrypt iv m) = m) ∧
  ∀ (n : Nat) (s : State), 1 ≤ n → n ≤ 16 → s.ctxValid = true → s.ofbReady = true →
    ∃ t u, exec (.ofbxor n) s = .next t ∧
      exec (.ofbxor n) { s with din := t.dout } = .next u ∧
      ∀ j : Fin 16, j.val < n → (blockOf u.dout)[j] = (blockOf s.din)[j]

/-- The keystream does not depend on the message (R245, R248, which the spec marks as derived): two
`OFBXOR n` that differ only in `DIN` leave the same `KS` and `OFB_POS`, and each output byte
differs exactly as its own message byte does. -/
def Obligations.KeystreamIgnoresTheMessage : Prop :=
  ∀ (n : Nat) (s : State) (din : Vector Word 4), 1 ≤ n → n ≤ 16 →
    s.ctxValid = true → s.ofbReady = true →
    ∃ t u, exec (.ofbxor n) s = .next t ∧ exec (.ofbxor n) { s with din := din } = .next u ∧
      t.ks = u.ks ∧ t.ofbPos = u.ofbPos ∧
      ∀ j : Fin 16, j.val < n → (blockOf t.dout)[j] ^^^ (blockOf u.dout)[j] =
        (blockOf s.din)[j] ^^^ (blockOf din)[j]

/-- Only `OFBINIT`, a successful `KEYINIT`, a successful `OFBXOR` and reset change the stream, over a
whole step, so an `ENC` or `DEC` between two `OFBXOR` does not disturb it (R43; R329, which the
spec marks as derived). The agenda is the model's own (notes/assumptions 1). -/
def Obligations.OnlyOfbAndKeyinitChangeTheStream : Prop :=
  ∀ s t : State, step s = .next t →
    ¬(t.ks = s.ks ∧ t.ofbPos = s.ofbPos ∧ t.ofbReady = s.ofbReady) →
    (∃ rest, s.agenda = .reset :: rest) ∨
    (s.busy = true ∧ t.err = .ok ∧ (∃ rest, s.Next .complete rest) ∧
      ∃ i, decode s.pend = .cmd i ∧
        (i = .ofbinit ∨ (∃ size, i = .keyinit size) ∨ ∃ n, i = .ofbxor n))

/-! ### The whole machine -/

/-- `DOUT` changes only at the completion of a successful `ENC`, `DEC` or `OFBXOR` and at reset (R38).
The agenda is the model's own (notes/assumptions 1). -/
def Obligations.OnlyBlockCommandsChangeDout : Prop :=
  ∀ s t : State, step s = .next t → t.dout ≠ s.dout →
    (∃ rest, s.agenda = .reset :: rest) ∨
    (s.busy = true ∧ t.err = .ok ∧ (∃ rest, s.Next .complete rest) ∧
      ∃ i, decode s.pend = .cmd i ∧ (i = .enc ∨ i = .dec ∨ ∃ n, i = .ofbxor n))

/-- The input registers change only at a host write to them while the engine is idle and at reset; no
command writes them (R37, R39, R76). The agenda is the model's own (notes/assumptions 1). -/
def Obligations.OnlyHostWritesChangeInputs : Prop :=
  ∀ s t : State, step s = .next t → ¬(t.key = s.key ∧ t.din = s.din ∧ t.iv = s.iv) →
    (∃ rest, s.agenda = .reset :: rest) ∨
    (s.busy = false ∧ ∃ idx v rest, s.agenda = .write idx v :: rest ∧
      ((4 ≤ idx.toNat ∧ idx.toNat < 16) ∨ (20 ≤ idx.toNat ∧ idx.toNat < 24)))

/-- A reset from any state, a busy one among them, leaves every element at the value R320 gives it
and abandons a pending command (R322); `STATUS` reads 0 and `irq` is 0. That a reset is one event,
and that the host's agenda and records outlive it, is the model's choice (notes/assumptions 6). -/
def Obligations.ResetClearsEveryElement : Prop :=
  ∀ (s : State) (rest : List Event), s.agenda = .reset :: rest → ∃ t, step s = .next t ∧
    t.ie = 0 ∧ (∀ k : Fin 8, t.key[k] = 0) ∧
    (∀ k : Fin 4, t.din[k] = 0 ∧ t.dout[k] = 0 ∧ t.iv[k] = 0) ∧
    t.ctxValid = false ∧ t.ctxKsz.code = 0 ∧ t.ofbReady = false ∧ t.ofbPos = 0 ∧
    t.busy = false ∧ t.done = false ∧ t.ovr = false ∧ t.err.code = 0 ∧ t.pend = 0 ∧
    busRead 1 t = 0 ∧ irq t = false ∧ t.agenda = rest ∧ t.reads = s.reads

/-- The state after reset has every element at the value R320 gives it, and every register reads 0;
`W` and `KS`, which R320 leaves unspecified, are not mentioned. -/
def Obligations.ResetStateHasTheStatedValues : Prop :=
  let s := State.reset
  s.ie = 0 ∧ (∀ k : Fin 8, s.key[k] = 0) ∧
  (∀ k : Fin 4, s.din[k] = 0 ∧ s.dout[k] = 0 ∧ s.iv[k] = 0) ∧
  s.ctxValid = false ∧ s.ctxKsz.code = 0 ∧ s.ofbReady = false ∧ s.ofbPos = 0 ∧
  s.busy = false ∧ s.done = false ∧ s.ovr = false ∧ s.err.code = 0 ∧ s.pend = 0 ∧
  irq s = false ∧ ∀ idx : WordIndex, busRead idx s = 0

/-- The invariant of the model holds after reset. -/
def Obligations.InvariantHoldsAfterReset : Prop := State.reset.Inv

/-- Every step keeps the invariant, from every state that meets it: an issued command is not done,
`KSIZE` reads 0 without a context, the position is 0 without a stream, and a context's schedule is
the key expansion of some key (R34, R42, R43, R130, R132). -/
def Obligations.EveryStepKeepsTheInvariant : Prop :=
  ∀ s t : State, s.Inv → step s = .next t → t.Inv

/-- A pending command ends: from every busy state, whatever the host does, some step within the
length of the agenda and one more leaves the engine idle, and with no reset among the events it
ends by completing. This is R134's weak fairness as the model takes it (notes/assumptions 1). -/
def Obligations.PendingCommandEnds : Prop :=
  ∀ s : State, s.busy = true → ∃ (k : Nat) (t : State), k ≤ s.agenda.length + 1 ∧
    stepsFrom k s = .next t ∧ t.busy = false ∧
    (Event.reset ∉ s.agenda → t.done = true)

/-- A completion reads what issue saw, so that latency does not show in it (R81, R333): whatever host
accesses come between an issue and its completion, the state after the completion is the one a
completion at once leaves, but for `IE`, `OVR` and what the host has read. That the latency is the
number of events on the agenda before the completion is the model's choice (notes/assumptions 9
and 1), and so is the record of reads (notes/assumptions 7). -/
def Obligations.LatencyDoesNotShowInResults : Prop :=
  ∀ (s : State) (accesses rest : List Event), s.busy = true →
    (∀ e ∈ accesses, e.isAccess = true) → s.agenda = accesses ++ .complete :: rest →
    ∃ t u, stepsFrom (accesses.length + 1) s = .next t ∧
      step { s with agenda := .complete :: rest } = .next u ∧
      t = { u with ie := t.ie, ovr := t.ovr, reads := t.reads }

/-- What the spec leaves unspecified never shows (R321, which the spec marks as derived): two states
that differ at most in unspecified values take steps to two such states, and every register read
and the interrupt are the same in both. That the unspecified values are free draws with a counter
of the model's own is its choice (notes/assumptions 3, 4 and 5), and so is the agenda
(notes/assumptions 1). -/
def Obligations.UnspecifiedValuesNeverShow : Prop :=
  ∀ s t s' : State, SameSpecified s t → step s = .next s' →
    ∃ t', step t = .next t' ∧ SameSpecified s' t' ∧ irq t' = irq s' ∧
      ∀ idx : WordIndex, busRead idx t' = busRead idx s'
end

