-- ==== Sys2Proof/Laws/KeySchedule.lean ====
section
/-! SUPPORT. How the loop of the key expansion grows its list of rows. -/

namespace Sys2Proof.Machine

@[simp] theorem seedRows_length (key : List Byte) (size : KeySize) :
    (seedRows key size).length = size.nk := by
  simp [seedRows]

/-- The row that the loop puts behind the given rows. -/
def nextRow (size : KeySize) (rows : List Row) : Row :=
  xorWord (rowAt rows (rows.length - size.nk))
    (scheduleStep size rows.length (rowAt rows (rows.length - 1)))

theorem expandRows_succ (size : KeySize) (count : Nat) (rows : List Row) :
    expandRows size (count + 1) rows = expandRows size count (rows ++ [nextRow size rows]) := rfl

@[simp] theorem expandRows_length (size : KeySize) (count : Nat) (rows : List Row) :
    (expandRows size count rows).length = rows.length + count := by
  induction count generalizing rows with
  | zero => rfl
  | succ count ih => rw [expandRows_succ, ih]; simp; omega

/-- The loop keeps the rows it starts from. -/
theorem expandRows_prefix (size : KeySize) (count : Nat) (rows : List Row) :
    ∃ more, expandRows size count rows = rows ++ more := by
  induction count generalizing rows with
  | zero => exact ⟨[], by simp [expandRows]⟩
  | succ count ih =>
    obtain ⟨more, h⟩ := ih (rows ++ [nextRow size rows])
    exact ⟨nextRow size rows :: more, by rw [expandRows_succ, h]; simp⟩

@[simp] theorem fillSchedule_getElem? (rows : List Row) (draws i : Nat) (h : i < 60)
    (hr : i < rows.length) : (fillSchedule rows draws)[i]? = rows[i]? := by
  simp [fillSchedule, h, hr]

end Sys2Proof.Machine
end

