-- ==== Sys2Proof/Laws/Matrix.lean ====
section
/-! SUPPORT. The state matrix by its entries: what each transform leaves at a row and a column. -/

namespace Sys2Proof.Machine

@[simp] theorem entry_matrixOf (f : Fin 4 → Fin 4 → Byte) (row col : Fin 4) :
    entry (matrixOf f) row col = f row col := by
  simp [entry, matrixOf]

/-- Two matrices with the same entries are equal. -/
theorem matrix_ext {S T : Matrix} (h : ∀ row col, entry S row col = entry T row col) : S = T := by
  apply Vector.ext
  intro r hr
  apply Vector.ext
  intro c hc
  exact h ⟨r, hr⟩ ⟨c, hc⟩

@[simp] theorem entry_loadBlock (b : Block) (row col : Fin 4) :
    entry (loadBlock b) row col = b[col.val * 4 + row.val] := by
  simp [loadBlock]

@[simp] theorem entry_subBytes (S : Matrix) (row col : Fin 4) :
    entry (subBytes S) row col = sbox (entry S row col) := by
  simp [subBytes]

@[simp] theorem entry_invSubBytes (S : Matrix) (row col : Fin 4) :
    entry (invSubBytes S) row col = invSbox (entry S row col) := by
  simp [invSubBytes]

@[simp] theorem entry_shiftRows (S : Matrix) (row col : Fin 4) :
    entry (shiftRows S) row col = entry S row (col + row) := by
  simp [shiftRows]

@[simp] theorem entry_invShiftRows (S : Matrix) (row col : Fin 4) :
    entry (invShiftRows S) row col = entry S row (col - row) := by
  simp [invShiftRows]

@[simp] theorem entry_addRoundKey (w : Schedule) (n : Nat) (S : Matrix) (row col : Fin 4) :
    entry (addRoundKey w n S) row col =
      entry S row col ^^^ (scheduleRow w (4 * n + col.val))[row] := by
  simp [addRoundKey]

@[simp] theorem entry_mixColumns (S : Matrix) (row col : Fin 4) :
    entry (mixColumns S) row col =
      (mixColumn (entry S 0 col) (entry S 1 col) (entry S 2 col) (entry S 3 col))[row] := by
  simp [mixColumns]

@[simp] theorem entry_invMixColumns (S : Matrix) (row col : Fin 4) :
    entry (invMixColumns S) row col =
      (invMixColumn (entry S 0 col) (entry S 1 col) (entry S 2 col) (entry S 3 col))[row] := by
  simp [invMixColumns]

end Sys2Proof.Machine
end

