-- ==== Sys2Proof/Laws/Ofb.lean ====
section
/-! SUPPORT. The byte loop of `OFBXOR`: its length, its position, and how it splits. -/

namespace Sys2Proof.Machine

variable (encrypt : Block → Block)

@[simp] theorem ofbLoop_nil (ks : Block) (pos : BitVec 4) :
    ofbLoop encrypt [] ks pos = ⟨[], ks, pos⟩ := rfl

@[simp] theorem ofbLoop_out_length (m : List Byte) (ks : Block) (pos : BitVec 4) :
    (ofbLoop encrypt m ks pos).out.length = m.length := by
  induction m generalizing ks pos with
  | nil => rfl
  | cons b m ih => simp [ofbLoop, ih]

/-- The position goes on by the number of bytes, modulo 16. -/
theorem ofbLoop_pos (m : List Byte) (ks : Block) (pos : BitVec 4) :
    (ofbLoop encrypt m ks pos).pos = pos + BitVec.ofNat 4 m.length := by
  induction m generalizing ks pos with
  | nil => simp
  | cons b m ih =>
    simp only [ofbLoop, ih, List.length_cons]
    apply BitVec.eq_of_toNat_eq
    simp [BitVec.toNat_add, BitVec.toNat_ofNat]
    omega

/-- Two pieces one after the other are the loop over both. -/
theorem ofbLoop_append (m₁ m₂ : List Byte) (ks : Block) (pos : BitVec 4) :
    ofbLoop encrypt (m₁ ++ m₂) ks pos =
      let r := ofbLoop encrypt m₁ ks pos
      let q := ofbLoop encrypt m₂ r.ks r.pos
      ⟨r.out ++ q.out, q.ks, q.pos⟩ := by
  induction m₁ generalizing ks pos with
  | nil => rfl
  | cons b m₁ ih => simp [ofbLoop, ih]

@[simp] theorem messageBytes_length (n : Nat) (din : Vector Word 4) (h : n ≤ 16) :
    (messageBytes n din).length = n := by
  simp [messageBytes, h]

end Sys2Proof.Machine
end

