-- ==== Sys2Proof/Laws/State.lean ====
section
/-! SUPPORT. What each update of the state writes and what it leaves, one lemma per field per
update, all true by definition. -/

namespace Sys2Proof.Machine

variable (s : State)

@[simp] theorem issue_ie (c : Word) : (issue c s).ie = s.ie := rfl
@[simp] theorem issue_key (c : Word) : (issue c s).key = s.key := rfl
@[simp] theorem issue_din (c : Word) : (issue c s).din = s.din := rfl
@[simp] theorem issue_dout (c : Word) : (issue c s).dout = s.dout := rfl
@[simp] theorem issue_iv (c : Word) : (issue c s).iv = s.iv := rfl
@[simp] theorem issue_ctxValid (c : Word) : (issue c s).ctxValid = s.ctxValid := rfl
@[simp] theorem issue_ctxKsz (c : Word) : (issue c s).ctxKsz = s.ctxKsz := rfl
@[simp] theorem issue_w (c : Word) : (issue c s).w = s.w := rfl
@[simp] theorem issue_ks (c : Word) : (issue c s).ks = s.ks := rfl
@[simp] theorem issue_ofbReady (c : Word) : (issue c s).ofbReady = s.ofbReady := rfl
@[simp] theorem issue_ofbPos (c : Word) : (issue c s).ofbPos = s.ofbPos := rfl
@[simp] theorem issue_busy (c : Word) : (issue c s).busy = true := rfl
@[simp] theorem issue_done (c : Word) : (issue c s).done = false := rfl
@[simp] theorem issue_ovr (c : Word) : (issue c s).ovr = s.ovr := rfl
@[simp] theorem issue_err (c : Word) : (issue c s).err = s.err := rfl
@[simp] theorem issue_pend (c : Word) : (issue c s).pend = c := rfl
@[simp] theorem issue_draws (c : Word) : (issue c s).draws = s.draws := rfl
@[simp] theorem issue_agenda (c : Word) : (issue c s).agenda = s.agenda := rfl
@[simp] theorem issue_reads (c : Word) : (issue c s).reads = s.reads := rfl

@[simp] theorem dropWrite_ie : (dropWrite s).ie = s.ie := rfl
@[simp] theorem dropWrite_key : (dropWrite s).key = s.key := rfl
@[simp] theorem dropWrite_din : (dropWrite s).din = s.din := rfl
@[simp] theorem dropWrite_dout : (dropWrite s).dout = s.dout := rfl
@[simp] theorem dropWrite_iv : (dropWrite s).iv = s.iv := rfl
@[simp] theorem dropWrite_ctxValid : (dropWrite s).ctxValid = s.ctxValid := rfl
@[simp] theorem dropWrite_ctxKsz : (dropWrite s).ctxKsz = s.ctxKsz := rfl
@[simp] theorem dropWrite_w : (dropWrite s).w = s.w := rfl
@[simp] theorem dropWrite_ks : (dropWrite s).ks = s.ks := rfl
@[simp] theorem dropWrite_ofbReady : (dropWrite s).ofbReady = s.ofbReady := rfl
@[simp] theorem dropWrite_ofbPos : (dropWrite s).ofbPos = s.ofbPos := rfl
@[simp] theorem dropWrite_busy : (dropWrite s).busy = s.busy := rfl
@[simp] theorem dropWrite_done : (dropWrite s).done = s.done := rfl
@[simp] theorem dropWrite_ovr : (dropWrite s).ovr = true := rfl
@[simp] theorem dropWrite_err : (dropWrite s).err = s.err := rfl
@[simp] theorem dropWrite_pend : (dropWrite s).pend = s.pend := rfl
@[simp] theorem dropWrite_draws : (dropWrite s).draws = s.draws := rfl
@[simp] theorem dropWrite_agenda : (dropWrite s).agenda = s.agenda := rfl
@[simp] theorem dropWrite_reads : (dropWrite s).reads = s.reads := rfl

@[simp] theorem finish_ie (code : ErrCode) : (finish code s).ie = s.ie := rfl
@[simp] theorem finish_key (code : ErrCode) : (finish code s).key = s.key := rfl
@[simp] theorem finish_din (code : ErrCode) : (finish code s).din = s.din := rfl
@[simp] theorem finish_dout (code : ErrCode) : (finish code s).dout = s.dout := rfl
@[simp] theorem finish_iv (code : ErrCode) : (finish code s).iv = s.iv := rfl
@[simp] theorem finish_ctxValid (code : ErrCode) : (finish code s).ctxValid = s.ctxValid := rfl
@[simp] theorem finish_ctxKsz (code : ErrCode) : (finish code s).ctxKsz = s.ctxKsz := rfl
@[simp] theorem finish_w (code : ErrCode) : (finish code s).w = s.w := rfl
@[simp] theorem finish_ks (code : ErrCode) : (finish code s).ks = s.ks := rfl
@[simp] theorem finish_ofbReady (code : ErrCode) : (finish code s).ofbReady = s.ofbReady := rfl
@[simp] theorem finish_ofbPos (code : ErrCode) : (finish code s).ofbPos = s.ofbPos := rfl
@[simp] theorem finish_busy (code : ErrCode) : (finish code s).busy = false := rfl
@[simp] theorem finish_done (code : ErrCode) : (finish code s).done = true := rfl
@[simp] theorem finish_ovr (code : ErrCode) : (finish code s).ovr = s.ovr := rfl
@[simp] theorem finish_err (code : ErrCode) : (finish code s).err = code := rfl
@[simp] theorem finish_pend (code : ErrCode) : (finish code s).pend = s.pend := rfl
@[simp] theorem finish_draws (code : ErrCode) : (finish code s).draws = s.draws := rfl
@[simp] theorem finish_agenda (code : ErrCode) : (finish code s).agenda = s.agenda := rfl
@[simp] theorem finish_reads (code : ErrCode) : (finish code s).reads = s.reads := rfl

@[simp] theorem acknowledge_ie (v : Word) : (acknowledge v s).ie = s.ie := rfl
@[simp] theorem acknowledge_key (v : Word) : (acknowledge v s).key = s.key := rfl
@[simp] theorem acknowledge_din (v : Word) : (acknowledge v s).din = s.din := rfl
@[simp] theorem acknowledge_dout (v : Word) : (acknowledge v s).dout = s.dout := rfl
@[simp] theorem acknowledge_iv (v : Word) : (acknowledge v s).iv = s.iv := rfl
@[simp] theorem acknowledge_ctxValid (v : Word) : (acknowledge v s).ctxValid = s.ctxValid := rfl
@[simp] theorem acknowledge_ctxKsz (v : Word) : (acknowledge v s).ctxKsz = s.ctxKsz := rfl
@[simp] theorem acknowledge_w (v : Word) : (acknowledge v s).w = s.w := rfl
@[simp] theorem acknowledge_ks (v : Word) : (acknowledge v s).ks = s.ks := rfl
@[simp] theorem acknowledge_ofbReady (v : Word) : (acknowledge v s).ofbReady = s.ofbReady := rfl
@[simp] theorem acknowledge_ofbPos (v : Word) : (acknowledge v s).ofbPos = s.ofbPos := rfl
@[simp] theorem acknowledge_busy (v : Word) : (acknowledge v s).busy = s.busy := rfl
@[simp] theorem acknowledge_done (v : Word) : (acknowledge v s).done = (s.done && !v.getLsbD 3) := rfl
@[simp] theorem acknowledge_ovr (v : Word) : (acknowledge v s).ovr = (s.ovr && !v.getLsbD 4) := rfl
@[simp] theorem acknowledge_err (v : Word) : (acknowledge v s).err = s.err := rfl
@[simp] theorem acknowledge_pend (v : Word) : (acknowledge v s).pend = s.pend := rfl
@[simp] theorem acknowledge_draws (v : Word) : (acknowledge v s).draws = s.draws := rfl
@[simp] theorem acknowledge_agenda (v : Word) : (acknowledge v s).agenda = s.agenda := rfl
@[simp] theorem acknowledge_reads (v : Word) : (acknowledge v s).reads = s.reads := rfl

@[simp] theorem setDout_ie (b : Block) : (setDout b s).ie = s.ie := rfl
@[simp] theorem setDout_key (b : Block) : (setDout b s).key = s.key := rfl
@[simp] theorem setDout_din (b : Block) : (setDout b s).din = s.din := rfl
@[simp] theorem setDout_dout (b : Block) : (setDout b s).dout = wordsOf b := rfl
@[simp] theorem setDout_iv (b : Block) : (setDout b s).iv = s.iv := rfl
@[simp] theorem setDout_ctxValid (b : Block) : (setDout b s).ctxValid = s.ctxValid := rfl
@[simp] theorem setDout_ctxKsz (b : Block) : (setDout b s).ctxKsz = s.ctxKsz := rfl
@[simp] theorem setDout_w (b : Block) : (setDout b s).w = s.w := rfl
@[simp] theorem setDout_ks (b : Block) : (setDout b s).ks = s.ks := rfl
@[simp] theorem setDout_ofbReady (b : Block) : (setDout b s).ofbReady = s.ofbReady := rfl
@[simp] theorem setDout_ofbPos (b : Block) : (setDout b s).ofbPos = s.ofbPos := rfl
@[simp] theorem setDout_busy (b : Block) : (setDout b s).busy = s.busy := rfl
@[simp] theorem setDout_done (b : Block) : (setDout b s).done = s.done := rfl
@[simp] theorem setDout_ovr (b : Block) : (setDout b s).ovr = s.ovr := rfl
@[simp] theorem setDout_err (b : Block) : (setDout b s).err = s.err := rfl
@[simp] theorem setDout_pend (b : Block) : (setDout b s).pend = s.pend := rfl
@[simp] theorem setDout_draws (b : Block) : (setDout b s).draws = s.draws := rfl
@[simp] theorem setDout_agenda (b : Block) : (setDout b s).agenda = s.agenda := rfl
@[simp] theorem setDout_reads (b : Block) : (setDout b s).reads = s.reads := rfl

@[simp] theorem setStream_ie (k : Block) (p : BitVec 4) (r : Bool) : (setStream k p r s).ie = s.ie := rfl
@[simp] theorem setStream_key (k : Block) (p : BitVec 4) (r : Bool) : (setStream k p r s).key = s.key := rfl
@[simp] theorem setStream_din (k : Block) (p : BitVec 4) (r : Bool) : (setStream k p r s).din = s.din := rfl
@[simp] theorem setStream_dout (k : Block) (p : BitVec 4) (r : Bool) : (setStream k p r s).dout = s.dout := rfl
@[simp] theorem setStream_iv (k : Block) (p : BitVec 4) (r : Bool) : (setStream k p r s).iv = s.iv := rfl
@[simp] theorem setStream_ctxValid (k : Block) (p : BitVec 4) (r : Bool) : (setStream k p r s).ctxValid = s.ctxValid := rfl
@[simp] theorem setStream_ctxKsz (k : Block) (p : BitVec 4) (r : Bool) : (setStream k p r s).ctxKsz = s.ctxKsz := rfl
@[simp] theorem setStream_w (k : Block) (p : BitVec 4) (r : Bool) : (setStream k p r s).w = s.w := rfl
@[simp] theorem setStream_ks (k : Block) (p : BitVec 4) (r : Bool) : (setStream k p r s).ks = k := rfl
@[simp] theorem setStream_ofbReady (k : Block) (p : BitVec 4) (r : Bool) : (setStream k p r s).ofbReady = r := rfl
@[simp] theorem setStream_ofbPos (k : Block) (p : BitVec 4) (r : Bool) : (setStream k p r s).ofbPos = p := rfl
@[simp] theorem setStream_busy (k : Block) (p : BitVec 4) (r : Bool) : (setStream k p r s).busy = s.busy := rfl
@[simp] theorem setStream_done (k : Block) (p : BitVec 4) (r : Bool) : (setStream k p r s).done = s.done := rfl
@[simp] theorem setStream_ovr (k : Block) (p : BitVec 4) (r : Bool) : (setStream k p r s).ovr = s.ovr := rfl
@[simp] theorem setStream_err (k : Block) (p : BitVec 4) (r : Bool) : (setStream k p r s).err = s.err := rfl
@[simp] theorem setStream_pend (k : Block) (p : BitVec 4) (r : Bool) : (setStream k p r s).pend = s.pend := rfl
@[simp] theorem setStream_draws (k : Block) (p : BitVec 4) (r : Bool) : (setStream k p r s).draws = s.draws := rfl
@[simp] theorem setStream_agenda (k : Block) (p : BitVec 4) (r : Bool) : (setStream k p r s).agenda = s.agenda := rfl
@[simp] theorem setStream_reads (k : Block) (p : BitVec 4) (r : Bool) : (setStream k p r s).reads = s.reads := rfl

@[simp] theorem setContext_ie (z : KeySize) (rows : List Row) : (setContext z rows s).ie = s.ie := rfl
@[simp] theorem setContext_key (z : KeySize) (rows : List Row) : (setContext z rows s).key = s.key := rfl
@[simp] theorem setContext_din (z : KeySize) (rows : List Row) : (setContext z rows s).din = s.din := rfl
@[simp] theorem setContext_dout (z : KeySize) (rows : List Row) : (setContext z rows s).dout = s.dout := rfl
@[simp] theorem setContext_iv (z : KeySize) (rows : List Row) : (setContext z rows s).iv = s.iv := rfl
@[simp] theorem setContext_ctxValid (z : KeySize) (rows : List Row) : (setContext z rows s).ctxValid = true := rfl
@[simp] theorem setContext_ctxKsz (z : KeySize) (rows : List Row) : (setContext z rows s).ctxKsz = z := rfl
@[simp] theorem setContext_w (z : KeySize) (rows : List Row) : (setContext z rows s).w = fillSchedule rows s.draws := rfl
@[simp] theorem setContext_ks (z : KeySize) (rows : List Row) : (setContext z rows s).ks = s.ks := rfl
@[simp] theorem setContext_ofbReady (z : KeySize) (rows : List Row) : (setContext z rows s).ofbReady = s.ofbReady := rfl
@[simp] theorem setContext_ofbPos (z : KeySize) (rows : List Row) : (setContext z rows s).ofbPos = s.ofbPos := rfl
@[simp] theorem setContext_busy (z : KeySize) (rows : List Row) : (setContext z rows s).busy = s.busy := rfl
@[simp] theorem setContext_done (z : KeySize) (rows : List Row) : (setContext z rows s).done = s.done := rfl
@[simp] theorem setContext_ovr (z : KeySize) (rows : List Row) : (setContext z rows s).ovr = s.ovr := rfl
@[simp] theorem setContext_err (z : KeySize) (rows : List Row) : (setContext z rows s).err = s.err := rfl
@[simp] theorem setContext_pend (z : KeySize) (rows : List Row) : (setContext z rows s).pend = s.pend := rfl
@[simp] theorem setContext_draws (z : KeySize) (rows : List Row) : (setContext z rows s).draws = s.draws + 4 * (60 - rows.length) := rfl
@[simp] theorem setContext_agenda (z : KeySize) (rows : List Row) : (setContext z rows s).agenda = s.agenda := rfl
@[simp] theorem setContext_reads (z : KeySize) (rows : List Row) : (setContext z rows s).reads = s.reads := rfl

@[simp] theorem setIe_ie (v : Word) : (setIe v s).ie = v.extractLsb' 0 2 := rfl
@[simp] theorem setIe_key (v : Word) : (setIe v s).key = s.key := rfl
@[simp] theorem setIe_din (v : Word) : (setIe v s).din = s.din := rfl
@[simp] theorem setIe_dout (v : Word) : (setIe v s).dout = s.dout := rfl
@[simp] theorem setIe_iv (v : Word) : (setIe v s).iv = s.iv := rfl
@[simp] theorem setIe_ctxValid (v : Word) : (setIe v s).ctxValid = s.ctxValid := rfl
@[simp] theorem setIe_ctxKsz (v : Word) : (setIe v s).ctxKsz = s.ctxKsz := rfl
@[simp] theorem setIe_w (v : Word) : (setIe v s).w = s.w := rfl
@[simp] theorem setIe_ks (v : Word) : (setIe v s).ks = s.ks := rfl
@[simp] theorem setIe_ofbReady (v : Word) : (setIe v s).ofbReady = s.ofbReady := rfl
@[simp] theorem setIe_ofbPos (v : Word) : (setIe v s).ofbPos = s.ofbPos := rfl
@[simp] theorem setIe_busy (v : Word) : (setIe v s).busy = s.busy := rfl
@[simp] theorem setIe_done (v : Word) : (setIe v s).done = s.done := rfl
@[simp] theorem setIe_ovr (v : Word) : (setIe v s).ovr = s.ovr := rfl
@[simp] theorem setIe_err (v : Word) : (setIe v s).err = s.err := rfl
@[simp] theorem setIe_pend (v : Word) : (setIe v s).pend = s.pend := rfl
@[simp] theorem setIe_draws (v : Word) : (setIe v s).draws = s.draws := rfl
@[simp] theorem setIe_agenda (v : Word) : (setIe v s).agenda = s.agenda := rfl
@[simp] theorem setIe_reads (v : Word) : (setIe v s).reads = s.reads := rfl

@[simp] theorem setKey_ie (k : Fin 8) (v : Word) : (setKey k v s).ie = s.ie := rfl
@[simp] theorem setKey_key (k : Fin 8) (v : Word) : (setKey k v s).key = s.key.set k v := rfl
@[simp] theorem setKey_din (k : Fin 8) (v : Word) : (setKey k v s).din = s.din := rfl
@[simp] theorem setKey_dout (k : Fin 8) (v : Word) : (setKey k v s).dout = s.dout := rfl
@[simp] theorem setKey_iv (k : Fin 8) (v : Word) : (setKey k v s).iv = s.iv := rfl
@[simp] theorem setKey_ctxValid (k : Fin 8) (v : Word) : (setKey k v s).ctxValid = s.ctxValid := rfl
@[simp] theorem setKey_ctxKsz (k : Fin 8) (v : Word) : (setKey k v s).ctxKsz = s.ctxKsz := rfl
@[simp] theorem setKey_w (k : Fin 8) (v : Word) : (setKey k v s).w = s.w := rfl
@[simp] theorem setKey_ks (k : Fin 8) (v : Word) : (setKey k v s).ks = s.ks := rfl
@[simp] theorem setKey_ofbReady (k : Fin 8) (v : Word) : (setKey k v s).ofbReady = s.ofbReady := rfl
@[simp] theorem setKey_ofbPos (k : Fin 8) (v : Word) : (setKey k v s).ofbPos = s.ofbPos := rfl
@[simp] theorem setKey_busy (k : Fin 8) (v : Word) : (setKey k v s).busy = s.busy := rfl
@[simp] theorem setKey_done (k : Fin 8) (v : Word) : (setKey k v s).done = s.done := rfl
@[simp] theorem setKey_ovr (k : Fin 8) (v : Word) : (setKey k v s).ovr = s.ovr := rfl
@[simp] theorem setKey_err (k : Fin 8) (v : Word) : (setKey k v s).err = s.err := rfl
@[simp] theorem setKey_pend (k : Fin 8) (v : Word) : (setKey k v s).pend = s.pend := rfl
@[simp] theorem setKey_draws (k : Fin 8) (v : Word) : (setKey k v s).draws = s.draws := rfl
@[simp] theorem setKey_agenda (k : Fin 8) (v : Word) : (setKey k v s).agenda = s.agenda := rfl
@[simp] theorem setKey_reads (k : Fin 8) (v : Word) : (setKey k v s).reads = s.reads := rfl

@[simp] theorem setDin_ie (k : Fin 4) (v : Word) : (setDin k v s).ie = s.ie := rfl
@[simp] theorem setDin_key (k : Fin 4) (v : Word) : (setDin k v s).key = s.key := rfl
@[simp] theorem setDin_din (k : Fin 4) (v : Word) : (setDin k v s).din = s.din.set k v := rfl
@[simp] theorem setDin_dout (k : Fin 4) (v : Word) : (setDin k v s).dout = s.dout := rfl
@[simp] theorem setDin_iv (k : Fin 4) (v : Word) : (setDin k v s).iv = s.iv := rfl
@[simp] theorem setDin_ctxValid (k : Fin 4) (v : Word) : (setDin k v s).ctxValid = s.ctxValid := rfl
@[simp] theorem setDin_ctxKsz (k : Fin 4) (v : Word) : (setDin k v s).ctxKsz = s.ctxKsz := rfl
@[simp] theorem setDin_w (k : Fin 4) (v : Word) : (setDin k v s).w = s.w := rfl
@[simp] theorem setDin_ks (k : Fin 4) (v : Word) : (setDin k v s).ks = s.ks := rfl
@[simp] theorem setDin_ofbReady (k : Fin 4) (v : Word) : (setDin k v s).ofbReady = s.ofbReady := rfl
@[simp] theorem setDin_ofbPos (k : Fin 4) (v : Word) : (setDin k v s).ofbPos = s.ofbPos := rfl
@[simp] theorem setDin_busy (k : Fin 4) (v : Word) : (setDin k v s).busy = s.busy := rfl
@[simp] theorem setDin_done (k : Fin 4) (v : Word) : (setDin k v s).done = s.done := rfl
@[simp] theorem setDin_ovr (k : Fin 4) (v : Word) : (setDin k v s).ovr = s.ovr := rfl
@[simp] theorem setDin_err (k : Fin 4) (v : Word) : (setDin k v s).err = s.err := rfl
@[simp] theorem setDin_pend (k : Fin 4) (v : Word) : (setDin k v s).pend = s.pend := rfl
@[simp] theorem setDin_draws (k : Fin 4) (v : Word) : (setDin k v s).draws = s.draws := rfl
@[simp] theorem setDin_agenda (k : Fin 4) (v : Word) : (setDin k v s).agenda = s.agenda := rfl
@[simp] theorem setDin_reads (k : Fin 4) (v : Word) : (setDin k v s).reads = s.reads := rfl

@[simp] theorem setIv_ie (k : Fin 4) (v : Word) : (setIv k v s).ie = s.ie := rfl
@[simp] theorem setIv_key (k : Fin 4) (v : Word) : (setIv k v s).key = s.key := rfl
@[simp] theorem setIv_din (k : Fin 4) (v : Word) : (setIv k v s).din = s.din := rfl
@[simp] theorem setIv_dout (k : Fin 4) (v : Word) : (setIv k v s).dout = s.dout := rfl
@[simp] theorem setIv_iv (k : Fin 4) (v : Word) : (setIv k v s).iv = s.iv.set k v := rfl
@[simp] theorem setIv_ctxValid (k : Fin 4) (v : Word) : (setIv k v s).ctxValid = s.ctxValid := rfl
@[simp] theorem setIv_ctxKsz (k : Fin 4) (v : Word) : (setIv k v s).ctxKsz = s.ctxKsz := rfl
@[simp] theorem setIv_w (k : Fin 4) (v : Word) : (setIv k v s).w = s.w := rfl
@[simp] theorem setIv_ks (k : Fin 4) (v : Word) : (setIv k v s).ks = s.ks := rfl
@[simp] theorem setIv_ofbReady (k : Fin 4) (v : Word) : (setIv k v s).ofbReady = s.ofbReady := rfl
@[simp] theorem setIv_ofbPos (k : Fin 4) (v : Word) : (setIv k v s).ofbPos = s.ofbPos := rfl
@[simp] theorem setIv_busy (k : Fin 4) (v : Word) : (setIv k v s).busy = s.busy := rfl
@[simp] theorem setIv_done (k : Fin 4) (v : Word) : (setIv k v s).done = s.done := rfl
@[simp] theorem setIv_ovr (k : Fin 4) (v : Word) : (setIv k v s).ovr = s.ovr := rfl
@[simp] theorem setIv_err (k : Fin 4) (v : Word) : (setIv k v s).err = s.err := rfl
@[simp] theorem setIv_pend (k : Fin 4) (v : Word) : (setIv k v s).pend = s.pend := rfl
@[simp] theorem setIv_draws (k : Fin 4) (v : Word) : (setIv k v s).draws = s.draws := rfl
@[simp] theorem setIv_agenda (k : Fin 4) (v : Word) : (setIv k v s).agenda = s.agenda := rfl
@[simp] theorem setIv_reads (k : Fin 4) (v : Word) : (setIv k v s).reads = s.reads := rfl

@[simp] theorem noteRead_ie (i : WordIndex) (v : Word) : (noteRead i v s).ie = s.ie := rfl
@[simp] theorem noteRead_key (i : WordIndex) (v : Word) : (noteRead i v s).key = s.key := rfl
@[simp] theorem noteRead_din (i : WordIndex) (v : Word) : (noteRead i v s).din = s.din := rfl
@[simp] theorem noteRead_dout (i : WordIndex) (v : Word) : (noteRead i v s).dout = s.dout := rfl
@[simp] theorem noteRead_iv (i : WordIndex) (v : Word) : (noteRead i v s).iv = s.iv := rfl
@[simp] theorem noteRead_ctxValid (i : WordIndex) (v : Word) : (noteRead i v s).ctxValid = s.ctxValid := rfl
@[simp] theorem noteRead_ctxKsz (i : WordIndex) (v : Word) : (noteRead i v s).ctxKsz = s.ctxKsz := rfl
@[simp] theorem noteRead_w (i : WordIndex) (v : Word) : (noteRead i v s).w = s.w := rfl
@[simp] theorem noteRead_ks (i : WordIndex) (v : Word) : (noteRead i v s).ks = s.ks := rfl
@[simp] theorem noteRead_ofbReady (i : WordIndex) (v : Word) : (noteRead i v s).ofbReady = s.ofbReady := rfl
@[simp] theorem noteRead_ofbPos (i : WordIndex) (v : Word) : (noteRead i v s).ofbPos = s.ofbPos := rfl
@[simp] theorem noteRead_busy (i : WordIndex) (v : Word) : (noteRead i v s).busy = s.busy := rfl
@[simp] theorem noteRead_done (i : WordIndex) (v : Word) : (noteRead i v s).done = s.done := rfl
@[simp] theorem noteRead_ovr (i : WordIndex) (v : Word) : (noteRead i v s).ovr = s.ovr := rfl
@[simp] theorem noteRead_err (i : WordIndex) (v : Word) : (noteRead i v s).err = s.err := rfl
@[simp] theorem noteRead_pend (i : WordIndex) (v : Word) : (noteRead i v s).pend = s.pend := rfl
@[simp] theorem noteRead_draws (i : WordIndex) (v : Word) : (noteRead i v s).draws = s.draws := rfl
@[simp] theorem noteRead_agenda (i : WordIndex) (v : Word) : (noteRead i v s).agenda = s.agenda := rfl
@[simp] theorem noteRead_reads (i : WordIndex) (v : Word) : (noteRead i v s).reads = ⟨i, v⟩ :: s.reads := rfl

@[simp] theorem setAgenda_ie (l : List Event) : (setAgenda l s).ie = s.ie := rfl
@[simp] theorem setAgenda_key (l : List Event) : (setAgenda l s).key = s.key := rfl
@[simp] theorem setAgenda_din (l : List Event) : (setAgenda l s).din = s.din := rfl
@[simp] theorem setAgenda_dout (l : List Event) : (setAgenda l s).dout = s.dout := rfl
@[simp] theorem setAgenda_iv (l : List Event) : (setAgenda l s).iv = s.iv := rfl
@[simp] theorem setAgenda_ctxValid (l : List Event) : (setAgenda l s).ctxValid = s.ctxValid := rfl
@[simp] theorem setAgenda_ctxKsz (l : List Event) : (setAgenda l s).ctxKsz = s.ctxKsz := rfl
@[simp] theorem setAgenda_w (l : List Event) : (setAgenda l s).w = s.w := rfl
@[simp] theorem setAgenda_ks (l : List Event) : (setAgenda l s).ks = s.ks := rfl
@[simp] theorem setAgenda_ofbReady (l : List Event) : (setAgenda l s).ofbReady = s.ofbReady := rfl
@[simp] theorem setAgenda_ofbPos (l : List Event) : (setAgenda l s).ofbPos = s.ofbPos := rfl
@[simp] theorem setAgenda_busy (l : List Event) : (setAgenda l s).busy = s.busy := rfl
@[simp] theorem setAgenda_done (l : List Event) : (setAgenda l s).done = s.done := rfl
@[simp] theorem setAgenda_ovr (l : List Event) : (setAgenda l s).ovr = s.ovr := rfl
@[simp] theorem setAgenda_err (l : List Event) : (setAgenda l s).err = s.err := rfl
@[simp] theorem setAgenda_pend (l : List Event) : (setAgenda l s).pend = s.pend := rfl
@[simp] theorem setAgenda_draws (l : List Event) : (setAgenda l s).draws = s.draws := rfl
@[simp] theorem setAgenda_agenda (l : List Event) : (setAgenda l s).agenda = l := rfl
@[simp] theorem setAgenda_reads (l : List Event) : (setAgenda l s).reads = s.reads := rfl

@[simp] theorem placeCommand_ie (c : Word) : (placeCommand c s).ie = s.ie := rfl
@[simp] theorem placeCommand_key (c : Word) : (placeCommand c s).key = s.key := rfl
@[simp] theorem placeCommand_din (c : Word) : (placeCommand c s).din = s.din := rfl
@[simp] theorem placeCommand_dout (c : Word) : (placeCommand c s).dout = s.dout := rfl
@[simp] theorem placeCommand_iv (c : Word) : (placeCommand c s).iv = s.iv := rfl
@[simp] theorem placeCommand_ctxValid (c : Word) : (placeCommand c s).ctxValid = s.ctxValid := rfl
@[simp] theorem placeCommand_ctxKsz (c : Word) : (placeCommand c s).ctxKsz = s.ctxKsz := rfl
@[simp] theorem placeCommand_w (c : Word) : (placeCommand c s).w = s.w := rfl
@[simp] theorem placeCommand_ks (c : Word) : (placeCommand c s).ks = s.ks := rfl
@[simp] theorem placeCommand_ofbReady (c : Word) : (placeCommand c s).ofbReady = s.ofbReady := rfl
@[simp] theorem placeCommand_ofbPos (c : Word) : (placeCommand c s).ofbPos = s.ofbPos := rfl
@[simp] theorem placeCommand_busy (c : Word) : (placeCommand c s).busy = true := rfl
@[simp] theorem placeCommand_done (c : Word) : (placeCommand c s).done = false := rfl
@[simp] theorem placeCommand_ovr (c : Word) : (placeCommand c s).ovr = s.ovr := rfl
@[simp] theorem placeCommand_err (c : Word) : (placeCommand c s).err = s.err := rfl
@[simp] theorem placeCommand_pend (c : Word) : (placeCommand c s).pend = c := rfl
@[simp] theorem placeCommand_draws (c : Word) : (placeCommand c s).draws = s.draws := rfl
@[simp] theorem placeCommand_agenda (c : Word) : (placeCommand c s).agenda = .complete :: s.agenda := rfl
@[simp] theorem placeCommand_reads (c : Word) : (placeCommand c s).reads = s.reads := rfl

@[simp] theorem hardReset_ie : (hardReset s).ie = 0 := rfl
@[simp] theorem hardReset_key : (hardReset s).key = Vector.replicate 8 0 := rfl
@[simp] theorem hardReset_din : (hardReset s).din = Vector.replicate 4 0 := rfl
@[simp] theorem hardReset_dout : (hardReset s).dout = Vector.replicate 4 0 := rfl
@[simp] theorem hardReset_iv : (hardReset s).iv = Vector.replicate 4 0 := rfl
@[simp] theorem hardReset_ctxValid : (hardReset s).ctxValid = false := rfl
@[simp] theorem hardReset_ctxKsz : (hardReset s).ctxKsz = .k128 := rfl
@[simp] theorem hardReset_w : (hardReset s).w = freeSchedule s.draws := rfl
@[simp] theorem hardReset_ks : (hardReset s).ks = freeBlock (s.draws + 240) := rfl
@[simp] theorem hardReset_ofbReady : (hardReset s).ofbReady = false := rfl
@[simp] theorem hardReset_ofbPos : (hardReset s).ofbPos = 0 := rfl
@[simp] theorem hardReset_busy : (hardReset s).busy = false := rfl
@[simp] theorem hardReset_done : (hardReset s).done = false := rfl
@[simp] theorem hardReset_ovr : (hardReset s).ovr = false := rfl
@[simp] theorem hardReset_err : (hardReset s).err = .ok := rfl
@[simp] theorem hardReset_pend : (hardReset s).pend = 0 := rfl
@[simp] theorem hardReset_draws : (hardReset s).draws = s.draws + 256 := rfl
@[simp] theorem hardReset_agenda : (hardReset s).agenda = s.agenda := rfl
@[simp] theorem hardReset_reads : (hardReset s).reads = s.reads := rfl
/-- Setting the agenda to what it is changes nothing. -/
@[simp] theorem setAgenda_self : setAgenda s.agenda s = s := rfl

end Sys2Proof.Machine
end

