-- ==== Sys2Proof/Laws/Ops.lean ====
section
/-! SUPPORT. Everything a bus write, a command and a step can do, one lemma each. -/

namespace Sys2Proof.Machine

/-- Everything a bus write can do (R76). -/
theorem busWrite_cases (idx : WordIndex) (v : Word) (s : State) :
    (s.busy = true ∧ busWrite idx v s = dropWrite s) ∨
    (s.busy = false ∧ regAt idx = .cmd ∧ busWrite idx v s = issue v s) ∨
    (regAt idx = .status ∧ busWrite idx v s = acknowledge v s) ∨
    (regAt idx = .ie ∧ busWrite idx v s = setIe v s) ∨
    (s.busy = false ∧ ∃ k, regAt idx = .key k ∧ busWrite idx v s = setKey k v s) ∨
    (s.busy = false ∧ ∃ k, regAt idx = .din k ∧ busWrite idx v s = setDin k v s) ∨
    (s.busy = false ∧ ∃ k, regAt idx = .iv k ∧ busWrite idx v s = setIv k v s) ∨
    busWrite idx v s = s := by
  cases hb : s.busy <;> cases hr : regAt idx <;> simp [busWrite, hr, hb]

/-- The effect of a command that is performed, before the completion's own writes. -/
def effect (i : Instr) (s : State) : State :=
  match i with
  | .nop => s
  | .keyinit size =>
    setStream s.ks 0 false (setContext size (keyExpansion (keyBytes size s.key) size) s)
  | .enc => setDout (contextEncrypt s (blockOf s.din)) s
  | .dec => setDout (contextDecrypt s (blockOf s.din)) s
  | .ofbinit => setStream (blockOf s.iv) 0 true s
  | .ofbxor n =>
    let r := ofbLoop (contextEncrypt s) (messageBytes n s.din) s.ks s.ofbPos
    setDout (zeroPadded r.out) (setStream r.ks r.pos s.ofbReady s)

/-- The commands that check `CTX_VALID` (R49). -/
def needsKey : Instr → Bool
  | .enc => true
  | .dec => true
  | .ofbxor _ => true
  | .nop => false
  | .keyinit _ => false
  | .ofbinit => false

/-- The command that checks `OFB_READY` (R49). -/
def needsStream : Instr → Bool
  | .ofbxor _ => true
  | .nop => false
  | .keyinit _ => false
  | .enc => false
  | .dec => false
  | .ofbinit => false

/-- Everything a command can do: it is performed, having what it needs, or it is rejected for want
of a key or of a stream. -/
theorem exec_cases (i : Instr) (s : State) :
    ((needsKey i = true → s.ctxValid = true) ∧ (needsStream i = true → s.ofbReady = true) ∧
      exec i s = .next (finish .ok (effect i s))) ∨
    (needsKey i = true ∧ s.ctxValid = false ∧ exec i s = .next (finish .noKey s)) ∨
    (needsStream i = true ∧ s.ctxValid = true ∧ s.ofbReady = false ∧
      exec i s = .next (finish .noIv s)) := by
  cases i <;> cases hv : s.ctxValid <;> cases ho : s.ofbReady <;>
    simp [exec, execNop, execKeyinit, execEnc, execDec, execOfbinit, execOfbxor, succeed, reject,
      effect, needsKey, needsStream, hv, ho]

/-- What a bus write leaves alone: the context, the stream, the output block, the error code, the
free draws and the host's own side. -/
theorem busWrite_frame (idx : WordIndex) (v : Word) (s : State) :
    (busWrite idx v s).ctxValid = s.ctxValid ∧ (busWrite idx v s).ctxKsz = s.ctxKsz ∧
    (busWrite idx v s).w = s.w ∧ (busWrite idx v s).ks = s.ks ∧
    (busWrite idx v s).ofbPos = s.ofbPos ∧ (busWrite idx v s).ofbReady = s.ofbReady ∧
    (busWrite idx v s).dout = s.dout ∧ (busWrite idx v s).err = s.err ∧
    (busWrite idx v s).draws = s.draws ∧ (busWrite idx v s).agenda = s.agenda ∧
    (busWrite idx v s).reads = s.reads := by
  rcases busWrite_cases idx v s with ⟨_, h⟩ | ⟨_, _, h⟩ | ⟨_, h⟩ | ⟨_, h⟩ | ⟨_, _, _, h⟩ |
    ⟨_, _, _, h⟩ | ⟨_, _, _, h⟩ | h <;> rw [h] <;> simp

/-- `Decode` never rejects with the code of success. -/
theorem decode_reject_ne_ok (c : Word) (code : ErrCode) (h : decode c = .reject code) :
    code ≠ .ok := by
  rintro rfl
  unfold decode at h
  repeat' split at h
  all_goals simp at h

/-- Everything a completion can do: a command is performed, or nothing but the code is written. -/
theorem complete_cases (s t : State) (h : complete s = .next t) :
    (∃ i, decode s.pend = .cmd i ∧ (needsKey i = true → s.ctxValid = true) ∧
      (needsStream i = true → s.ofbReady = true) ∧ t = finish .ok (effect i s)) ∨
    (∃ code, code ≠ .ok ∧ t = finish code s) := by
  cases hd : decode s.pend with
  | cmd i =>
    simp only [complete, hd] at h
    rcases exec_cases i s with ⟨hk, ho, e⟩ | ⟨_, _, e⟩ | ⟨_, _, _, e⟩ <;>
      rw [e, Host.Outcome.next.injEq] at h
    · exact .inl ⟨i, rfl, hk, ho, h.symm⟩
    · exact .inr ⟨.noKey, by decide, h.symm⟩
    · exact .inr ⟨.noIv, by decide, h.symm⟩
  | reject code =>
    simp only [complete, hd, reject, Host.Outcome.next.injEq] at h
    exact .inr ⟨code, decode_reject_ne_ok _ _ hd, h.symm⟩

/-- Everything a step can do: a host access, a completion, an idle turn of the engine, or a
reset. -/
theorem step_cases (s : State) :
    (∃ idx rest, s.agenda = .read idx :: rest ∧
      step s = .next (noteRead idx (busRead idx (setAgenda rest s)) (setAgenda rest s))) ∨
    (∃ idx v rest, s.agenda = .write idx v :: rest ∧
      step s = .next (busWrite idx v (setAgenda rest s))) ∨
    (∃ rest, s.Next .complete rest ∧ s.busy = true ∧ step s = complete (setAgenda rest s)) ∨
    (∃ rest, s.Next .complete rest ∧ s.busy = false ∧ step s = .next (setAgenda rest s)) ∨
    (∃ rest, s.agenda = .reset :: rest ∧ step s = .next (hardReset (setAgenda rest s))) := by
  cases ha : s.agenda with
  | nil =>
    have same : setAgenda [] s = s := by rw [← ha]; exact setAgenda_self s
    cases hb : s.busy <;> simp [step, nextEvent, perform, State.Next, ha, hb, same]
  | cons e rest =>
    cases e with
    | read idx =>
      exact .inl ⟨idx, rest, rfl, by simp only [step, nextEvent, perform, ha]⟩
    | write idx v =>
      exact .inr (.inl ⟨idx, v, rest, rfl, by simp only [step, nextEvent, perform, ha]⟩)
    | complete =>
      cases hb : s.busy <;> simp [step, nextEvent, perform, State.Next, ha, hb]
    | reset => simp [step, nextEvent, perform, ha]

/-- The word placed by `withFetchWord` is what the next step completes. -/
theorem step_withFetchWord (s : State) (nbits w : Nat) :
    step (s.withFetchWord nbits w) =
      complete (issue (BitVec.ofNat 32 (w % 2 ^ nbits)) s) := rfl

@[simp] theorem stepsFrom_zero (s : State) : stepsFrom 0 s = .next s := rfl

/-- The first of several steps. -/
theorem stepsFrom_succ (k : Nat) (s t : State) (h : step s = .next t) :
    stepsFrom (k + 1) s = stepsFrom k t := by
  have general : ∀ (M : Host.Core) (a b : M.State), M.step a = .next b →
      M.run (k + 1) a = M.run k b := by
    intro M a b hab
    simp [Host.Core.run, hab]
  exact general Sys2Proof.core s t h

end Sys2Proof.Machine
end

