-- ==== Sys2Proof/Laws/PerInstr.lean ====
section
/-! SUPPORT. Statements about every command as syntax, one lemma per constructor. -/

namespace Sys2Proof

/-- The `match` value of a command's row of the opcode table. -/
def Instr.tableMatch : Instr → Word
  | .nop => 0x00000000
  | .keyinit _ => 0x00000001
  | .enc => 0x00000002
  | .dec => 0x00000003
  | .ofbinit => 0x00000004
  | .ofbxor _ => 0x00000005

/-- The `mask` value of a command's row of the opcode table. -/
def Instr.tableMask : Instr → Word
  | .nop => 0xFFFFFFFF
  | .keyinit _ => 0xFFFFFFCF
  | .enc => 0xFFFFFFFF
  | .dec => 0xFFFFFFFF
  | .ofbinit => 0xFFFFFFFF
  | .ofbxor _ => 0xFFFFF0FF

namespace Laws.EncodingMatchesTable

/-- The word of a well-formed command, under its row's mask, is its row's match value. -/
def Statement (i : Instr) : Prop := i.wf = true → encode i &&& i.tableMask = i.tableMatch

theorem nop : Statement .nop := by intro _; decide

theorem keyinit (size : KeySize) : Statement (.keyinit size) := by
  intro _; cases size <;> decide

theorem enc : Statement .enc := by intro _; decide

theorem dec : Statement .dec := by intro _; decide

theorem ofbinit : Statement .ofbinit := by intro _; decide

theorem ofbxor (n : Nat) : Statement (.ofbxor n) := by
  intro _
  show commandWord (BitVec.ofNat 4 (n - 1)) 0 5 &&& 0xFFFFF0FF = 5
  generalize BitVec.ofNat 4 (n - 1) = x
  revert x
  decide

end Laws.EncodingMatchesTable

end Sys2Proof
end

