-- ==== Sys2Proof/Tests/Slice0.lean ====
section
/-! SUPPORT. Tests of the model, their expected values taken from spec/ (the section of
95_test_vectors.md or the rule is named at each), and a witness for the hypotheses of every
statement. -/

namespace Sys2Proof.Tests

open Sys2Proof.Machine

/-! ### Well-formedness: each check refuses an ill-formed term -/

theorem test_wf_refuses_zero_bytes : (Instr.ofbxor 0).wf = false := by decide

theorem test_wf_refuses_seventeen_bytes : (Instr.ofbxor 17).wf = false := by decide

theorem test_wf_accepts_every_encodable_count :
    ∀ k : Fin 16, (Instr.ofbxor (k.val + 1)).wf = true := by decide

/-! ### Decoding: words written out from R101 and R102, and the rejections of L2.1 -/

theorem test_decode_nop :
    decode 0b0000_0000_0000_0000_0000_0000_0000_0000#32 = .cmd .nop := by decide

theorem test_decode_keyinit :
    decode 0b0000_0000_0000_0000_0000_0000_0000_0001#32 = .cmd (.keyinit .k128) ∧
    decode 0b0000_0000_0000_0000_0000_0000_0001_0001#32 = .cmd (.keyinit .k192) ∧
    decode 0b0000_0000_0000_0000_0000_0000_0010_0001#32 = .cmd (.keyinit .k256) := by decide

theorem test_decode_enc :
    decode 0b0000_0000_0000_0000_0000_0000_0000_0010#32 = .cmd .enc := by decide

theorem test_decode_dec :
    decode 0b0000_0000_0000_0000_0000_0000_0000_0011#32 = .cmd .dec := by decide

theorem test_decode_ofbinit :
    decode 0b0000_0000_0000_0000_0000_0000_0000_0100#32 = .cmd .ofbinit := by decide

theorem test_decode_ofbxor :
    decode 0b0000_0000_0000_0000_0000_0000_0000_0101#32 = .cmd (.ofbxor 1) ∧
    decode 0b0000_0000_0000_0000_0000_0010_0000_0101#32 = .cmd (.ofbxor 3) ∧
    decode 0b0000_0000_0000_0000_0000_1111_0000_0101#32 = .cmd (.ofbxor 16) := by decide +kernel

theorem test_decode_bad_op :
    [0x00000006#32, 0x00000007, 0x0000000f, 0xffffffff, 0x00001007].map decode =
      List.replicate 5 (.reject .badOp) := by decide +kernel

theorem test_decode_bad_field :
    [0x00000012#32, 0x00000030, 0x00000035, 0x00000040, 0x00000041, 0x00000080, 0x00000100,
      0x00000104, 0x00000f00, 0x00001000, 0x80000002, 0x00001031].map decode =
      List.replicate 12 (.reject .badField) := by decide +kernel

theorem test_decode_bad_ksz : decode 0x00000031 = .reject .badKsz := by decide +kernel

theorem test_decode_table_word :
    decodeTableWord 32 0x00000f05 = some (.ofbxor 16) ∧ decodeTableWord 32 0x00000031 = none := by
  decide +kernel

/-! ### States to run one step on -/

/-- The state a step leads to. -/
def after (o : Host.Outcome State Fault Refusal) : Option State :=
  match o with
  | .next t => some t
  | .fault _ => none
  | .refused _ => none

/-- The eight key registers of the FIPS-197 C keys, `000102...1f`. -/
def fipsKey : Vector Word 8 :=
  #v[0x00010203, 0x04050607, 0x08090a0b, 0x0c0d0e0f, 0x10111213, 0x14151617, 0x18191a1b, 0x1c1d1e1f]

/-- The AES-128 key `2b7e...`. -/
def key2b : Vector Word 8 := #v[0x2b7e1516, 0x28aed2a6, 0xabf71588, 0x09cf4f3c, 0, 0, 0, 0]

/-- `00112233445566778899aabbccddeeff`. -/
def fipsText : Vector Word 4 := #v[0x00112233, 0x44556677, 0x8899aabb, 0xccddeeff]

/-- `000102030405060708090a0b0c0d0e0f`. -/
def ivWords : Vector Word 4 := #v[0x00010203, 0x04050607, 0x08090a0b, 0x0c0d0e0f]

/-- A state with the context of a key, as `KEYINIT` leaves it, and an input block. -/
def keyed (size : KeySize) (key : Vector Word 8) (din : Vector Word 4) : State :=
  { setContext size (keyExpansion (keyBytes size key) size) State.reset with
    key := key, din := din }

/-- A state with the `2b7e...` context, a stream at a position with a keystream block, and an input
block. -/
def streaming (ks : Vector Word 4) (pos : BitVec 4) (din : Vector Word 4) : State :=
  { setStream (blockOf ks) pos true (keyed .k128 key2b din) with iv := ivWords }

/-- Reset with the given events to come. -/
def upcoming (events : List Event) : State := setAgenda events State.reset

/-- A busy engine with the given pending word and events to come. -/
def pending (c : Word) (events : List Event) : State := setAgenda events (issue c State.reset)

/-! ### One step of each command -/

/-- R136, L2.2. -/
theorem test_nop_status :
    (after (step (State.reset.withFetchWord 32 0x00000000))).map statusWord = some 0x00000008 := by
  decide +kernel

/-- L2.2: `NOP` after an error clears `ERR`; it does not touch `OVR` (R136). -/
theorem test_nop_clears_err_keeps_ovr :
    (after (exec .nop { State.reset with err := .noKey, ovr := true })).map statusWord =
      some 0x00000018 := by
  decide +kernel

/-- A schedule row written as a word (R74). -/
def rowWord (r : Row) : Word := packWord r[0] r[1] r[2] r[3]

/-- The status and two schedule words after a `KEYINIT`. -/
def keyinitShows (size : KeySize) (key : Vector Word 8) (i j : Fin 60) :
    Option (Word × Word × Word) :=
  (after (exec (.keyinit size) { State.reset with key := key, ofbReady := true, ofbPos := 4 })).map
    fun t => (statusWord t, rowWord t.w[i], rowWord t.w[j])

/-- R153's example and L1.2: `W[4]`, `W[43]` of the AES-128 key; the stream ends (L2.3). -/
theorem test_keyinit_k128 :
    keyinitShows .k128 key2b 4 43 = some (0x0000000a, 0xa0fafe17, 0xb6630ca6) := by
  decide +kernel

/-- L1.2: `W[6]`, `W[51]` of the AES-192 key and `W[12]`, `W[59]` of the AES-256 key. -/
theorem test_keyinit_k192_k256 :
    keyinitShows .k192
      #v[0x8e73b0f7, 0xda0e6452, 0xc810f32b, 0x809079e5, 0x62f8ead2, 0x522c6b7b, 0, 0] 6 51 =
      some (0x0000004a, 0xfe0c91f7, 0x01002202) ∧
    keyinitShows .k256
      #v[0x603deb10, 0x15ca71be, 0x2b73aef0, 0x857d7781, 0x1f352c07, 0x3b6108d7, 0x2d9810a3,
        0x0914dff4] 12 59 =
      some (0x0000008a, 0xa8b09c1a, 0x706c631e) := by
  decide +kernel

/-- The output block after a command. -/
def doutAfter (i : Instr) (s : State) : Option (List Word) :=
  (after (exec i s)).map fun t => t.dout.toList

/-- FIPS-197 C.1 (L1.2). -/
theorem test_enc_k128 :
    doutAfter .enc (keyed .k128 fipsKey fipsText) =
      some [0x69c4e0d8, 0x6a7b0430, 0xd8cdb780, 0x70b4c55a] := by
  decide +kernel

/-- FIPS-197 C.3 (L1.2). -/
theorem test_enc_k256 :
    doutAfter .enc (keyed .k256 fipsKey fipsText) =
      some [0x8ea2b7ca, 0x516745bf, 0xeafc4990, 0x4b496089] := by
  decide +kernel

/-- FIPS-197 C.2 (L1.2). -/
theorem test_dec_k192 :
    doutAfter .dec (keyed .k192 fipsKey #v[0xdda97ca4, 0x864cdfe0, 0x6eaf70a0, 0xec0d7191]) =
      some fipsText.toList := by
  decide +kernel

/-- L2.5, error case: `DEC` from reset. -/
theorem test_dec_without_key :
    (after (exec .dec State.reset)).map statusWord = some 0x00004008 := by
  decide +kernel

/-- R241's example; L2.6: it succeeds with no key. -/
theorem test_ofbinit :
    (after (exec .ofbinit { State.reset with iv := ivWords })).map
      (fun t => (statusWord t, t.ks.toList)) =
      some (0x0000000c, (List.range 16).map (BitVec.ofNat 8)) := by
  decide +kernel

/-- R242's example: 16 bytes from position 0 regenerate once and leave `K1`. -/
theorem test_ofbxor_whole_block :
    (after (exec (.ofbxor 16)
      (streaming ivWords 0 #v[0x6bc1bee2, 0x2e409f96, 0xe93d7e11, 0x7393172a]))).map
      (fun t => (statusWord t, t.dout.toList, (wordsOf t.ks).toList)) =
    some (0x0000000e, [0x3b3fd92e, 0xb72dad20, 0x333449f8, 0xe83cfb4a],
      [0x50fe67cc, 0x996d32b6, 0xda0937e9, 0x9bafec60]) := by
  decide +kernel

/-- L2.6, step 6: 16 bytes from position 4 of `K2`, regenerated once into `K3`. -/
theorem test_ofbxor_across_blocks :
    (after (exec (.ofbxor 16)
      (streaming #v[0xd9a4dada, 0x0892239f, 0x6b8b3d76, 0x80e15674] 4 #v[0, 0, 0, 0]))).map
      (fun t => (statusWord t, t.dout.toList, (wordsOf t.ks).toList)) =
    some (0x0000040e, [0x0892239f, 0x6b8b3d76, 0x80e15674, 0xa7881958],
      [0xa7881958, 0x3f0308e7, 0xa6bf36b1, 0x386abf23]) := by
  decide +kernel

/-! ### Transforms and tables (L2.4) -/

theorem test_field :
    xtime 0x57 = 0xae ∧ xtime 0x80 = 0x1b ∧ xtime 0xff = 0xe5 ∧ gmul 0x57 0x13 = 0xfe := by
  decide +kernel

theorem test_sbox :
    sbox 0x00 = 0x63 ∧ sbox 0x01 = 0x7c ∧ sbox 0x10 = 0xca ∧ sbox 0x53 = 0xed ∧ sbox 0xff = 0x16 ∧
    invSbox 0x63 = 0x00 ∧ invSbox 0xed = 0x53 ∧ invSbox 0x00 = 0x52 := by
  decide +kernel

theorem test_shift_rows :
    (wordsOf (storeBlock (shiftRows (loadBlock (blockOf ivWords))))).toList =
      [0x00050a0f, 0x04090e03, 0x080d0207, 0x0c01060b] ∧
    (wordsOf (storeBlock (invShiftRows (loadBlock (blockOf ivWords))))).toList =
      [0x000d0a07, 0x04010e0b, 0x0805020f, 0x0c090603] := by
  decide +kernel

theorem test_mix_columns :
    (wordsOf (storeBlock (mixColumns (loadBlock
      (blockOf #v[0xdb135345, 0xf20a225c, 0xd4d4d4d5, 0x2d26314c]))))).toList =
      [0x8e4da1bc, 0x9fdc589d, 0xd5d5d7d6, 0x4d7ebdf8] ∧
    (wordsOf (storeBlock (invMixColumns (loadBlock
      (blockOf #v[0x8e4da1bc, 0x9fdc589d, 0xd5d5d7d6, 0x4d7ebdf8]))))).toList =
      [0xdb135345, 0xf20a225c, 0xd4d4d4d5, 0x2d26314c] := by
  decide +kernel

/-! ### Bus accesses, flags and the lifecycle (L2.2, L2.7, L3 P3) -/

theorem test_bus_reads_after_reset :
    [0x00#8, 0x04, 0x0c, 0x10, 0x60, 0xfc].map (fun off => busRead (wordIndex off) State.reset) =
      List.replicate 6 0 := by
  decide +kernel

theorem test_bus_writes_read_back :
    busRead (wordIndex 0x08) (busWrite (wordIndex 0x08) 0xffffffff State.reset) = 0x00000003 ∧
    busRead (wordIndex 0x30) (busWrite (wordIndex 0x30) 0x00112233 State.reset) = 0x00112233 ∧
    busRead (wordIndex 0x5c) (busWrite (wordIndex 0x5c) 0x0c0d0e0f State.reset) = 0x0c0d0e0f ∧
    busRead (wordIndex 0x40) (busWrite (wordIndex 0x40) 0x00001234 State.reset) = 0 ∧
    busRead (wordIndex 0x10) (busWrite (wordIndex 0x10) 0x12345678 State.reset) = 0 := by
  decide +kernel

theorem test_status_keeps_old_error_while_busy :
    statusWord (issue 0x00000021 { State.reset with err := .noKey, done := true }) =
      0x00004001 := by
  decide +kernel

theorem test_write_while_busy_is_dropped :
    statusWord (busWrite (wordIndex 0x30) 0xdeadbeef (issue 0x00000021 State.reset)) =
      0x00000011 ∧
    (busWrite (wordIndex 0x30) 0xdeadbeef (issue 0x00000021 State.reset)).din = State.reset.din := by
  decide +kernel

theorem test_interrupt_levels :
    irq { State.reset with done := true, ie := 1 } = true ∧
    irq (busWrite (wordIndex 0x04) 0x00000008 { State.reset with done := true, ie := 1 }) = false ∧
    irq (busWrite (wordIndex 0x08) 0x00000002 { State.reset with ovr := true }) = true := by
  decide +kernel

theorem test_step_records_a_read :
    (after (step (upcoming [.read 1]))).map (fun t => t.reads) = some [⟨1, 0⟩] := by
  decide +kernel

theorem test_reset_abandons_a_command :
    (after (step (pending 0x00000001 [.reset]))).map (fun t => (statusWord t, t.pend, irq t)) =
      some (0, 0, false) := by
  decide +kernel

/-! ### Witnesses: for each statement with hypotheses, values that meet them together -/

theorem witness_DecodeInvertsEncode :
    (Instr.ofbxor 16).wf = true ∧ (Instr.keyinit .k256).wf = true := by decide

theorem witness_DecodedWordIsItsEncoding : decode 0x00000021 = .cmd (.keyinit .k256) := by
  decide +kernel

/-- Each clause's conditions, at words where the clauses meet: `[op, ksz, lenm1, bits 31..12,
bits 7..6]` of the word. -/
theorem witness_DecodeTestsInOrder :
    let fields := fun c : Word => [c.toNat % 16, c.toNat / 16 % 4, c.toNat / 256 % 16,
      c.toNat / 4096, c.toNat / 64 % 4]
    fields 0x00000006 = [6, 0, 0, 0, 0] ∧ fields 0xffffffff = [15, 3, 15, 0xfffff, 3] ∧
    fields 0x00001f05 = [5, 0, 15, 1, 0] ∧ fields 0x00000045 = [5, 0, 0, 0, 1] ∧
    fields 0x00000010 = [0, 1, 0, 0, 0] ∧ fields 0x00000035 = [5, 3, 0, 0, 0] ∧
    fields 0x00000101 = [1, 0, 1, 0, 0] ∧ fields 0x00000f04 = [4, 0, 15, 0, 0] ∧
    fields 0x00000031 = [1, 3, 0, 0, 0] ∧ fields 0x00000021 = [1, 2, 0, 0, 0] ∧
    fields 0x00000001 = [1, 0, 0, 0, 0] ∧ fields 0x00000000 = [0, 0, 0, 0, 0] ∧
    fields 0x00000002 = [2, 0, 0, 0, 0] ∧ fields 0x00000003 = [3, 0, 0, 0, 0] ∧
    fields 0x00000004 = [4, 0, 0, 0, 0] ∧ fields 0x00000005 = [5, 0, 0, 0, 0] ∧
    fields 0x00000f05 = [5, 0, 15, 0, 0] := by
  decide +kernel

theorem witness_IssueCapturesAnyWord :
    (upcoming [.write 0 0xffffffff]).agenda = .write 0 0xffffffff :: [] ∧
    (upcoming [.write 0 0xffffffff]).busy = false := ⟨rfl, rfl⟩

theorem witness_CommandWriteWhileBusyIsDropped :
    (pending 3 [.write 0 2, .complete]).agenda = .write 0 2 :: [.complete] ∧
    (pending 3 [.write 0 2, .complete]).busy = true := ⟨rfl, rfl⟩

theorem witness_StepRunsTheDecodedCommand :
    (pending 0x00000f05 []).Next .complete [] ∧ (pending 0x00000f05 []).busy = true ∧
    (pending 0x00000f05 [.complete, .read 1]).Next .complete [.read 1] ∧
    decode (pending 0x00000f05 []).pend = .cmd (.ofbxor 16) := by
  refine ⟨.inr ⟨rfl, rfl, rfl⟩, rfl, .inl rfl, ?_⟩
  decide +kernel

theorem witness_RejectedWordLeavesOnlyItsCode :
    (pending 0x00000031 []).Next .complete [] ∧ (pending 0x00000031 []).busy = true ∧
    decode (pending 0x00000031 []).pend = .reject .badKsz := by
  refine ⟨.inr ⟨rfl, rfl, rfl⟩, rfl, ?_⟩
  decide +kernel

theorem witness_NopOnlyCompletes :
    (0x80000000#32).toNat % 16 = 0 ∧ (0x80000000#32) ≠ 0 ∧
    (0x00000010#32).toNat % 16 = 0 ∧ (0x00000010#32) ≠ 0 := by decide

theorem witness_FailedCommandHasNoOtherEffect :
    ∃ t, exec .enc State.reset = .next t ∧ t.err ≠ .ok := ⟨_, rfl, by decide⟩

/-- One word for each code, and the state that each of the last three depends on. -/
theorem witness_CompletionCodeByPriority :
    (∀ c : Word, (pending c []).Next .complete [] ∧ (pending c []).busy = true) ∧
    (pending 0x00000005 []).ctxValid = false ∧
    (issue 0x00000005 (keyed .k128 key2b ivWords)).ctxValid = true ∧
    (issue 0x00000005 (keyed .k128 key2b ivWords)).ofbReady = false ∧
    (issue 0x00000005 (streaming ivWords 0 ivWords)).ctxValid = true ∧
    (issue 0x00000005 (streaming ivWords 0 ivWords)).ofbReady = true :=
  ⟨fun _ => ⟨.inr ⟨rfl, rfl, rfl⟩, rfl⟩, rfl, rfl, rfl, rfl, rfl⟩

/-- The agenda, an idle and a busy engine, and the ends of each clause's range of indexes. -/
theorem witness_HostWriteByRegister :
    (∀ idx v, (upcoming [.write idx v]).agenda = .write idx v :: [] ∧
      (upcoming [.write idx v]).busy = false ∧
      (pending 0 [.write idx v]).agenda = .write idx v :: [] ∧
      (pending 0 [.write idx v]).busy = true) ∧
    (0#6).toNat = 0 ∧ (1#6).toNat = 1 ∧ (2#6).toNat = 2 ∧ (3#6).toNat = 3 ∧
    (4#6).toNat = 4 + (0 : Fin 8).val ∧ (11#6).toNat = 4 + (7 : Fin 8).val ∧
    (12#6).toNat = 12 + (0 : Fin 4).val ∧ (15#6).toNat = 12 + (3 : Fin 4).val ∧
    (16 ≤ (16#6).toNat ∧ (16#6).toNat < 20) ∧ (16 ≤ (19#6).toNat ∧ (19#6).toNat < 20) ∧
    (20#6).toNat = 20 + (0 : Fin 4).val ∧ (23#6).toNat = 20 + (3 : Fin 4).val ∧
    24 ≤ (24#6).toNat ∧ 24 ≤ (63#6).toNat := by
  refine ⟨fun _ _ => ⟨rfl, rfl, rfl, rfl⟩, ?_⟩
  decide

/-- The agenda, the ends of each clause's range of indexes, and a step that leaves a command
pending. -/
theorem witness_HostReadByRegister :
    (∀ idx, (upcoming [.read idx]).agenda = .read idx :: []) ∧
    (0#6).toNat = 0 ∧ (1#6).toNat = 1 ∧ (2#6).toNat = 2 ∧ (3#6).toNat = 3 ∧
    (4 ≤ (4#6).toNat ∧ (4#6).toNat < 12) ∧ (4 ≤ (11#6).toNat ∧ (11#6).toNat < 12) ∧
    (12#6).toNat = 12 + (0 : Fin 4).val ∧ (15#6).toNat = 12 + (3 : Fin 4).val ∧
    (16#6).toNat = 16 + (0 : Fin 4).val ∧ (19#6).toNat = 16 + (3 : Fin 4).val ∧
    (20#6).toNat = 20 + (0 : Fin 4).val ∧ (23#6).toNat = 20 + (3 : Fin 4).val ∧
    24 ≤ (24#6).toNat ∧ 24 ≤ (63#6).toNat ∧
    ∃ t, step (pending 2 [.read 16]) = .next t ∧ t.busy = true := by
  refine ⟨fun _ => rfl, by decide, by decide, by decide, by decide, by decide, by decide, by decide,
    by decide, by decide, by decide, by decide, by decide, by decide, by decide, _, rfl, rfl⟩

/-- Agendas with one read and with two equal reads next, and the first and the last index that is not
`CMD`. -/
theorem witness_AccessesAreIdempotent :
    (upcoming [.read 1]).agenda = .read 1 :: [] ∧
    (pending 2 [.read 16, .read 16, .complete]).agenda =
      .read 16 :: .read 16 :: [.complete] ∧
    (1 : WordIndex) ≠ 0 ∧ (63 : WordIndex) ≠ 0 := by
  refine ⟨rfl, rfl, ?_⟩
  decide

theorem witness_WrittenRegisterReadsBack : State.reset.busy = false := rfl

theorem witness_EnablingAPendingSourceInterrupts :
    ({ State.reset with done := true, ovr := true } : State).done = true ∧
    ({ State.reset with done := true, ovr := true } : State).ovr = true ∧
    (0x1b#32).getLsbD 0 = true ∧ (0x1b#32).getLsbD 1 = true ∧
    (0x1b#32).getLsbD 3 = true ∧ (0x1b#32).getLsbD 4 = true := by
  refine ⟨rfl, rfl, ?_⟩
  decide

/-- A step that clears both bits, one that sets `OVR` and one that sets `DONE`. -/
theorem witness_StickyBitsChangeOnlyAsListed :
    let both : State := { upcoming [.write 1 0x18] with ovr := true, done := true }
    (∃ t, step both = .next t ∧ both.ovr = true ∧ t.ovr = false ∧ both.done = true ∧
      t.done = false) ∧
    (∃ t, step (pending 0 [.write 12 5]) = .next t ∧ (pending 0 [.write 12 5]).ovr = false ∧
      t.ovr = true) ∧
    ∃ t, step (pending 0 []) = .next t ∧ (pending 0 []).done = false ∧ t.done = true := by
  refine ⟨⟨_, rfl, rfl, ?_, rfl, ?_⟩, ⟨_, rfl, rfl, rfl⟩, _, rfl, rfl, rfl⟩ <;> decide +kernel

theorem witness_TablesAreFieldProducts : (1 ≤ 1 ∧ 1 ≤ 10) ∧ 1 ≤ 10 ∧ 10 ≤ 10 := by decide

theorem witness_SboxIsAffineOfInverse : (0x53 : Byte) ≠ 0 ∧ gmul 0x53 0xca = 1 := by
  decide +kernel

/-- The ends of the round counts and of the rounds between. -/
theorem witness_EncryptBlockByRounds :
    (1 ≤ 1 ∧ 1 ≤ 14) ∧ (1 ≤ 14 ∧ 14 ≤ 14) ∧ 0 + 1 < 10 ∧ 12 + 1 < 14 := by decide

/-- The ends of the round counts and of the rounds between. -/
theorem witness_DecryptBlockByRounds :
    (1 ≤ 1 ∧ 1 ≤ 14) ∧ (1 ≤ 14 ∧ 14 ≤ 14) ∧ 0 + 1 < 10 ∧ 12 + 1 < 14 := by decide

/-- The first and the last row of each key size's loop, and a row of each of its three kinds. -/
theorem witness_KeyExpansionRows :
    (∃ W, W = keyExpansion (keyBytes .k256 fipsKey) .k256) ∧
    (KeySize.k128.nk ≤ 4 ∧ 4 < KeySize.k128.nw ∧ 4 % KeySize.k128.nk = 0) ∧
    (KeySize.k192.nk ≤ 51 ∧ 51 < KeySize.k192.nw ∧ 51 % KeySize.k192.nk ≠ 0) ∧
    (KeySize.k256.nk ≤ 8 ∧ 59 < KeySize.k256.nw ∧ 12 % KeySize.k256.nk ≠ 0 ∧ 12 % 8 = 4) ∧
    0 < KeySize.k128.nk ∧ 7 < KeySize.k256.nk := by
  refine ⟨⟨_, rfl⟩, ?_⟩
  decide

/-- The first and the last row that takes in a round constant for each key size, and rows of the two
kinds that take in none. -/
theorem witness_RoundConstantIndexInTable :
    (KeySize.k128.nk ≤ 4 ∧ 40 < KeySize.k128.nw ∧ 4 % KeySize.k128.nk = 0 ∧
      40 % KeySize.k128.nk = 0) ∧
    (KeySize.k192.nk ≤ 6 ∧ 48 < KeySize.k192.nw ∧ 6 % KeySize.k192.nk = 0 ∧
      48 % KeySize.k192.nk = 0) ∧
    (KeySize.k256.nk ≤ 8 ∧ 56 < KeySize.k256.nw ∧ 8 % KeySize.k256.nk = 0 ∧
      56 % KeySize.k256.nk = 0) ∧
    (KeySize.k256.nk ≤ 12 ∧ 59 < KeySize.k256.nw ∧ 12 % KeySize.k256.nk ≠ 0 ∧
      59 % KeySize.k256.nk ≠ 0) ∧
    (1 ≤ 1 ∧ 1 ≤ 7) ∧ 1 ≤ 10 ∧ 10 ≤ 10 := by decide

theorem witness_KeyinitBuildsTheContext :
    0 < KeySize.k128.nw ∧ 59 < KeySize.k256.nw ∧ (3 : Fin 8).val < KeySize.k128.nk ∧
    (7 : Fin 8).val < KeySize.k256.nk := by decide

/-- An AES-128 `KEYINIT` with other values in `KEY4..KEY7`, and the other commands with other values
in the registers they do not read. -/
theorem witness_CommandsReadOnlyTheirOperands :
    (∀ i : Instr, ∃ t, exec i (streaming ivWords 0 ivWords) = .next t) ∧
    (∀ k : Fin 8, k.val < KeySize.k128.nk →
      (#v[0x2b7e1516, 0x28aed2a6, 0xabf71588, 0x09cf4f3c, 1, 2, 3, 4] : Vector Word 8)[k] =
        (streaming ivWords 0 ivWords).key[k]) ∧
    ivWords = (streaming ivWords 0 ivWords).din ∧ ivWords = (streaming ivWords 0 ivWords).iv := by
  refine ⟨fun i => ?_, ?_, rfl, rfl⟩
  · cases i <;> exact ⟨_, rfl⟩
  · show ∀ k : Fin 8, k.val < KeySize.k128.nk →
      (#v[0x2b7e1516, 0x28aed2a6, 0xabf71588, 0x09cf4f3c, 1, 2, 3, 4] : Vector Word 8)[k] = key2b[k]
    decide +kernel

theorem witness_OnlyKeyinitAndResetChangeTheContext :
    ∃ t, step (pending 0x00000001 []) = .next t ∧
      ¬(t.ctxValid = (pending 0x00000001 []).ctxValid ∧
        t.ctxKsz = (pending 0x00000001 []).ctxKsz ∧ t.w = (pending 0x00000001 []).w) :=
  ⟨_, rfl, fun h => Bool.noConfusion (h.1 : true = false)⟩

theorem witness_EncWritesTheEncryptedBlock : (keyed .k128 fipsKey fipsText).ctxValid = true := rfl

theorem witness_DecWritesTheDecryptedBlock : (keyed .k192 fipsKey fipsText).ctxValid = true := rfl

theorem witness_CommandsWithoutKeyOrIvAreRejected :
    State.reset.ctxValid = false ∧ (keyed .k128 fipsKey fipsText).ctxValid = true ∧
    (keyed .k128 fipsKey fipsText).ofbReady = false := ⟨rfl, rfl, rfl⟩

theorem witness_EngineBlockSymmetry : (keyed .k256 fipsKey fipsText).ctxValid = true := rfl

theorem witness_OfbinitStartsAStream :
    (0x80000004#32).toNat % 16 = 4 ∧ (0x80000004#32) ≠ 4 ∧
    (0x00000014#32).toNat % 16 = 4 ∧ (0x00000014#32) ≠ 4 := by decide

/-- A stream at the first and at the last position of a block, with both ends of the count. -/
theorem witness_OfbxorXorsTheKeystream :
    (1 ≤ 1 ∧ 1 ≤ 16) ∧ (1 ≤ 16 ∧ 16 ≤ 16) ∧ ∀ pos ∈ [0#4, 15#4],
      (streaming ivWords pos fipsText).ctxValid = true ∧
      (streaming ivWords pos fipsText).ofbReady = true ∧
      (streaming ivWords pos fipsText).ofbPos = pos :=
  ⟨⟨by decide, by decide⟩, ⟨by decide, by decide⟩, fun _ _ => ⟨rfl, rfl, rfl⟩⟩

/-- The pieces of L2.6: 5, 11 and 4 bytes. -/
theorem witness_ChunkedStreamEqualsTheReference :
    (keyed .k128 key2b ivWords).ctxValid = true ∧
    ∀ p ∈ [Piece.mk 5 fipsText, Piece.mk 11 ivWords, Piece.mk 4 fipsText], 1 ≤ p.n ∧ p.n ≤ 16 := by
  refine ⟨rfl, ?_⟩
  simp

theorem witness_OfbIsItsOwnInverse :
    (1 ≤ 16 ∧ 16 ≤ 16) ∧ (streaming ivWords 4 fipsText).ctxValid = true ∧
    (streaming ivWords 4 fipsText).ofbReady = true := ⟨by decide, rfl, rfl⟩

theorem witness_KeystreamIgnoresTheMessage :
    (1 ≤ 1 ∧ 1 ≤ 16) ∧ (streaming ivWords 15 fipsText).ctxValid = true ∧
    (streaming ivWords 15 fipsText).ofbReady = true := ⟨by decide, rfl, rfl⟩

theorem witness_OnlyOfbAndKeyinitChangeTheStream :
    ∃ t, step (pending 0x00000004 []) = .next t ∧
      ¬(t.ks = (pending 0x00000004 []).ks ∧ t.ofbPos = (pending 0x00000004 []).ofbPos ∧
        t.ofbReady = (pending 0x00000004 []).ofbReady) :=
  ⟨_, rfl, fun h => Bool.noConfusion (h.2.2 : true = false)⟩

theorem witness_OnlyBlockCommandsChangeDout :
    let s : State := { upcoming [.reset] with dout := ivWords }
    ∃ t, step s = .next t ∧ t.dout ≠ s.dout :=
  ⟨_, rfl, by show Vector.replicate 4 0 ≠ ivWords; decide +kernel⟩

theorem witness_OnlyHostWritesChangeInputs :
    ∃ t, step (upcoming [.write 12 5]) = .next t ∧
      ¬(t.key = (upcoming [.write 12 5]).key ∧ t.din = (upcoming [.write 12 5]).din ∧
        t.iv = (upcoming [.write 12 5]).iv) := by
  refine ⟨_, rfl, fun h => ?_⟩
  exact absurd h.2.1 (by decide +kernel)

theorem witness_ResetClearsEveryElement :
    (pending 0x00000002 [.reset, .read 1]).agenda = .reset :: [.read 1] := rfl

/-- The storage that `KEYINIT` fills holds a schedule. -/
theorem fillSchedule_holds (size : KeySize) (key : Vector Word 8) (draws : Nat) :
    HoldsSchedule size (fillSchedule (keyExpansion (keyBytes size key) size) draws) := by
  refine ⟨key, fun r hr => fillSchedule_getElem? _ _ r ?_ ?_⟩
  · cases size <;> simp [KeySize.nw, KeySize.nr, KeySize.nk, KeySize.code] at hr <;> omega
  · cases size <;> simp [keyExpansion, KeySize.nw, KeySize.nr, KeySize.nk, KeySize.code] at hr ⊢ <;>
      omega

/-- A state with a context that meets the invariant, and a step of it. -/
theorem witness_EveryStepKeepsTheInvariant :
    (setAgenda [.reset] (keyed .k128 fipsKey fipsText)).Inv ∧
    ∃ t, step (setAgenda [.reset] (keyed .k128 fipsKey fipsText)) = .next t := by
  have hw : (setAgenda [.reset] (keyed .k128 fipsKey fipsText)).w =
      fillSchedule (keyExpansion (keyBytes .k128 fipsKey) .k128) State.reset.draws := by
    simp [keyed]
  refine ⟨⟨fun h => Bool.noConfusion (h : false = true), fun h => Bool.noConfusion (h : true = false),
    fun _ => rfl, fun _ => ?_⟩, _, rfl⟩
  rw [hw]
  exact fillSchedule_holds .k128 fipsKey _

theorem witness_PendingCommandEnds :
    (pending 2 [.read 1, .write 0 3]).busy = true ∧
    Event.reset ∉ (pending 2 [.read 1, .write 0 3]).agenda := by
  refine ⟨rfl, ?_⟩
  show Event.reset ∉ [Event.read 1, Event.write 0 3]
  decide

theorem witness_LatencyDoesNotShowInResults :
    (pending 1 [.read 1, .write 4 9, .complete, .read 1]).busy = true ∧
    (∀ e ∈ [Event.read 1, Event.write 4 9], e.isAccess = true) ∧
    (pending 1 [.read 1, .write 4 9, .complete, .read 1]).agenda =
      [Event.read 1, Event.write 4 9] ++ .complete :: [.read 1] := by
  refine ⟨rfl, ?_, rfl⟩
  decide

theorem witness_UnspecifiedValuesNeverShow :
    SameSpecified (upcoming [.read 1]) { upcoming [.read 1] with w := freeSchedule 300, draws := 7 } ∧
    ∃ t, step (upcoming [.read 1]) = .next t :=
  ⟨⟨rfl, fun h => Bool.noConfusion (h : false = true), fun _ => rfl⟩, _, rfl⟩

end Sys2Proof.Tests
end

section
/-! The bits of `STATUS` and `IE` that drive the interrupt output (R34, R35, R47). -/

namespace Sys2Proof.Machine

/-- A read of word index 1 returns `STATUS` (R32, R75). -/
theorem busRead_status (s : State) : busRead 1 s = statusWord s := rfl

/-- A read of word index 2 returns `IE`, zero-extended (R32, R75). -/
theorem busRead_ie (s : State) : busRead 2 s = s.ie.setWidth 32 := rfl

/-- A flag word carries its flag in bit 0 and zeros above it. -/
@[simp] theorem flagWord_getElem (b : Bool) (i : Nat) (hi : i < 32) :
    (flagWord b)[i] = (decide (i = 0) && b) := by
  simp [flagWord, BitVec.getLsbD_ofBool]

/-- `STATUS[3]` is `DONE` (R34): every other field lies above or below that bit. -/
theorem statusWord_getLsbD_done (s : State) : (statusWord s).getLsbD 3 = s.done := by
  simp [statusWord]

/-- `STATUS[4]` is `OVR` (R34). -/
theorem statusWord_getLsbD_ovr (s : State) : (statusWord s).getLsbD 4 = s.ovr := by
  simp [statusWord]

/-- The two implemented bits of `IE` are read back at their places (R35). -/
theorem busRead_ie_getLsbD (s : State) (i : Nat) (hi : i < 2) :
    (busRead 2 s).getLsbD i = s.ie.getLsbD i := by
  have hword : i < 32 := by omega
  rw [busRead_ie, BitVec.getLsbD_setWidth, decide_eq_true hword, Bool.true_and]

/-- No flag is set after reset (R320), so no source drives the interrupt output (R47). -/
theorem irq_reset : irq State.reset = false := rfl

/-- Settles O20: the bits the host reads are the fields that `irq` is computed from (R47). -/
theorem interruptFollowsStatusAndEnables : Obligations.InterruptFollowsStatusAndEnables := by
  refine ⟨fun s => ?_, irq_reset⟩
  rw [busRead_status, statusWord_getLsbD_done, statusWord_getLsbD_ovr,
    busRead_ie_getLsbD s 0 (by decide), busRead_ie_getLsbD s 1 (by decide)]
  rfl

end Sys2Proof.Machine
end

section
/-! The register at each word index and what a host write to it does (R32, R76). -/

namespace Sys2Proof.Machine

section RegisterMap

variable {idx : WordIndex}

theorem regAt_cmd (h : idx.toNat = 0) : regAt idx = .cmd := by
  simp [regAt, h]

theorem regAt_status (h : idx.toNat = 1) : regAt idx = .status := by
  simp [regAt, h]

theorem regAt_ie (h : idx.toNat = 2) : regAt idx = .ie := by
  simp [regAt, h]

theorem regAt_key (k : Fin 8) (h : idx.toNat = 4 + k.val) : regAt idx = .key k := by
  simp (disch := omega) [regAt, h, if_neg, dif_pos]

theorem regAt_din (k : Fin 4) (h : idx.toNat = 12 + k.val) : regAt idx = .din k := by
  simp (disch := omega) [regAt, h, if_neg, dif_neg, dif_pos]

theorem regAt_dout (k : Fin 4) (h : idx.toNat = 16 + k.val) : regAt idx = .dout k := by
  simp (disch := omega) [regAt, h, if_neg, dif_neg, dif_pos]

theorem regAt_iv (k : Fin 4) (h : idx.toNat = 20 + k.val) : regAt idx = .iv k := by
  simp (disch := omega) [regAt, h, if_neg, dif_neg, dif_pos]

theorem regAt_reserved (h : idx.toNat = 3 ∨ 24 ≤ idx.toNat) : regAt idx = .reserved := by
  obtain h | h := h
  · simp [regAt, h]
  · simp (disch := omega) [regAt, if_neg, dif_neg]

end RegisterMap

section BusWrite

variable {idx : WordIndex} (v : Word) (s : State)

theorem busWrite_cmd (h : regAt idx = .cmd) :
    busWrite idx v s = if s.busy then dropWrite s else issue v s := by
  simp only [busWrite, h]

theorem busWrite_status (h : regAt idx = .status) : busWrite idx v s = acknowledge v s := by
  simp only [busWrite, h]

theorem busWrite_ie (h : regAt idx = .ie) : busWrite idx v s = setIe v s := by
  simp only [busWrite, h]

theorem busWrite_key (k : Fin 8) (h : regAt idx = .key k) :
    busWrite idx v s = if s.busy then dropWrite s else setKey k v s := by
  simp only [busWrite, h]

theorem busWrite_din (k : Fin 4) (h : regAt idx = .din k) :
    busWrite idx v s = if s.busy then dropWrite s else setDin k v s := by
  simp only [busWrite, h]

theorem busWrite_dout (k : Fin 4) (h : regAt idx = .dout k) : busWrite idx v s = s := by
  simp only [busWrite, h]

theorem busWrite_iv (k : Fin 4) (h : regAt idx = .iv k) :
    busWrite idx v s = if s.busy then dropWrite s else setIv k v s := by
  simp only [busWrite, h]

theorem busWrite_reserved (h : regAt idx = .reserved) : busWrite idx v s = s := by
  simp only [busWrite, h]

/-- `DOUTk` and the reserved offsets take no write, whatever `BUSY` is (R76). -/
theorem busWrite_readOnly
    (h : idx.toNat = 3 ∨ (16 ≤ idx.toNat ∧ idx.toNat < 20) ∨ 24 ≤ idx.toNat) :
    busWrite idx v s = s := by
  obtain h | ⟨hlow, hhigh⟩ | h := h
  · exact busWrite_reserved v s (regAt_reserved (.inl h))
  · have hindex : idx.toNat = 16 + (idx.toNat - 16) := (Nat.add_sub_of_le hlow).symm
    exact busWrite_dout v s _ (regAt_dout ⟨idx.toNat - 16, by omega⟩ hindex)
  · exact busWrite_reserved v s (regAt_reserved (.inr h))

/-- A write of `STATUS` with each flag as R76 words it: a 1 in its bit clears it. -/
theorem acknowledge_eq_ite :
    acknowledge v s =
      { s with
        done := if v.getLsbD 3 then false else s.done
        ovr := if v.getLsbD 4 then false else s.ovr } := by
  have clear (b flag : Bool) : (flag && !b) = if b then false else flag := by cases b <;> simp
  simp only [acknowledge, clear]

end BusWrite

/-- A step whose next event is a host write performs that write (R79). -/
theorem step_write (s : State) (idx : WordIndex) (v : Word) (rest : List Event)
    (h : s.agenda = .write idx v :: rest) :
    step s = .next (busWrite idx v (setAgenda rest s)) := by
  simp only [step, nextEvent, perform, h]

/-- Settles O15: the register at each index and the write of that register (R76); `BUSY` is
untouched when the write is taken off the agenda. -/
theorem hostWriteByRegister : Obligations.HostWriteByRegister := by
  intro s idx v rest hagenda n dropped
  rw [step_write s idx v rest hagenda]
  refine ⟨fun h => ?cmd, fun h => ?status, fun h => ?ie, fun k h => ?key, fun k h => ?din,
    fun k h => ?iv, fun h => ?readOnly⟩
  case cmd => rw [busWrite_cmd _ _ (regAt_cmd h)]; rfl
  case status => rw [busWrite_status _ _ (regAt_status h), acknowledge_eq_ite]; rfl
  case ie => rw [busWrite_ie _ _ (regAt_ie h)]; rfl
  case key => rw [busWrite_key _ _ k (regAt_key k h)]; rfl
  case din => rw [busWrite_din _ _ k (regAt_din k h)]; rfl
  case iv => rw [busWrite_iv _ _ k (regAt_iv k h)]; rfl
  case readOnly => rw [busWrite_readOnly _ _ h]; rfl

end Sys2Proof.Machine
end

section
/-! The byte order of register words, blocks and the state matrix, and its inverses (R71, R73). -/

namespace Sys2Proof.Machine

/-- Byte `j` of a word as a quotient (R71). -/
theorem wordByte_toNat (v : Word) (j : Nat) :
    (wordByte v j).toNat = v.toNat / 2 ^ (24 - 8 * j) % 256 := by
  simp [wordByte, Nat.shiftRight_eq_div_pow]

/-- Appended bit vectors as a sum. -/
theorem toNat_append_eq_add {m n : Nat} (x : BitVec m) (y : BitVec n) :
    (x ++ y).toNat = x.toNat * 2 ^ n + y.toNat := by
  rw [BitVec.toNat_append, ← Nat.shiftLeft_add_eq_or_of_lt y.isLt, Nat.shiftLeft_eq]

/-- A packed word as a sum, the first byte most significant (R71). -/
theorem packWord_toNat (b0 b1 b2 b3 : Byte) :
    (packWord b0 b1 b2 b3).toNat =
      b0.toNat * 2 ^ 24 + b1.toNat * 2 ^ 16 + b2.toNat * 2 ^ 8 + b3.toNat := by
  simp only [packWord, toNat_append_eq_add]
  omega

/-- A word is packed from its own four bytes. -/
theorem packWord_wordByte (v : Word) :
    packWord (wordByte v 0) (wordByte v 1) (wordByte v 2) (wordByte v 3) = v := by
  apply BitVec.eq_of_toNat_eq
  simp only [packWord_toNat, wordByte_toNat]
  omega

/-- The bytes of a packed word are the bytes it was packed from. -/
theorem wordByte_packWord (b : Fin 4 → Byte) (j : Fin 4) :
    wordByte (packWord (b 0) (b 1) (b 2) (b 3)) j = b j := by
  apply BitVec.eq_of_toNat_eq
  rw [wordByte_toNat, packWord_toNat]
  fin_cases j <;> simp <;> omega

@[simp] theorem blockOf_getElem (v : Vector Word 4) (i : Nat) (hi : i < 16) :
    (blockOf v)[i] = wordByte v[i / 4] (i % 4) := by
  simp [blockOf]

@[simp] theorem wordsOf_getElem (b : Block) (k : Nat) (hk : k < 4) :
    (wordsOf b)[k] = packWord b[4 * k] b[4 * k + 1] b[4 * k + 2] b[4 * k + 3] := by
  simp [wordsOf]

@[simp] theorem storeBlock_getElem (S : Matrix) (i : Nat) (hi : i < 16) :
    (storeBlock S)[i] = entry S ⟨i % 4, by omega⟩ ⟨i / 4, by omega⟩ := by
  simp [storeBlock]

/-- Byte `4k + j` of a block is byte `j` of word `k` (R71). -/
theorem blockOf_getElem_word (v : Vector Word 4) (k j : Fin 4) :
    (blockOf v)[4 * k.val + j.val]'(by omega) = wordByte v[k] j := by
  have hword : (4 * k.val + j.val) / 4 = k.val := by omega
  have hbyte : (4 * k.val + j.val) % 4 = j.val := by omega
  simp [hword, hbyte]

/-- Byte `col * 4 + row` of the stored matrix is its entry at `row` and `col` (R73). -/
theorem storeBlock_getElem_entry (S : Matrix) (row col : Fin 4) :
    (storeBlock S)[col.val * 4 + row.val]'(by omega) = entry S row col := by
  have hrow : (col.val * 4 + row.val) % 4 = row.val := by omega
  have hcol : (col.val * 4 + row.val) / 4 = col.val := by omega
  simp [hrow, hcol]

theorem wordsOf_blockOf (v : Vector Word 4) : wordsOf (blockOf v) = v := by
  apply Vector.ext
  intro k hk
  have hbyte (j : Fin 4) := blockOf_getElem_word v ⟨k, hk⟩ j
  calc (wordsOf (blockOf v))[k]
      = packWord (wordByte v[k] 0) (wordByte v[k] 1) (wordByte v[k] 2) (wordByte v[k] 3) := by
        rw [wordsOf_getElem]
        exact congr (congr (congr (congrArg packWord (hbyte 0)) (hbyte 1)) (hbyte 2)) (hbyte 3)
    _ = v[k] := packWord_wordByte v[k]

theorem blockOf_wordsOf (b : Block) : blockOf (wordsOf b) = b := by
  apply Vector.ext
  intro i hi
  have hbyte := wordByte_packWord (fun j => b[4 * (i / 4) + j.val]) ⟨i % 4, by omega⟩
  have hindex : 4 * (i / 4) + i % 4 = i := Nat.div_add_mod i 4
  simpa [hindex] using hbyte

theorem storeBlock_loadBlock (b : Block) : storeBlock (loadBlock b) = b := by
  apply Vector.ext
  intro i hi
  have hindex : i / 4 * 4 + i % 4 = i := Nat.div_add_mod' i 4
  simp [hindex]

theorem loadBlock_storeBlock (S : Matrix) : loadBlock (storeBlock S) = S :=
  matrix_ext fun row col => by rw [entry_loadBlock, storeBlock_getElem_entry]

/-- Settles O23: bytes of words as quotients and words as sums of bytes, then the two pairs of
inverses, byte by byte and entry by entry (R71, R73). -/
theorem blockConversionsAreInverse : Obligations.BlockConversionsAreInverse := by
  refine ⟨fun v k j => ?_, fun b k => ?_, blockOf_wordsOf, wordsOf_blockOf, entry_loadBlock,
    storeBlock_getElem_entry, storeBlock_loadBlock, loadBlock_storeBlock⟩
  · rw [blockOf_getElem_word, wordByte_toNat]
  · rw [Fin.getElem_fin, wordsOf_getElem, packWord_toNat]

end Sys2Proof.Machine
end

section
/-! The fields of a command word as quotients and remainders, and the tests of `Decode` one by one
(R101, R103, R105). -/

namespace Sys2Proof

theorem opField_toNat (c : Word) : (opField c).toNat = c.toNat % 16 := by
  simp [opField]

theorem kszField_toNat (c : Word) : (kszField c).toNat = c.toNat / 16 % 4 := by
  simp [kszField, Nat.shiftRight_eq_div_pow]

theorem lenm1Field_toNat (c : Word) : (lenm1Field c).toNat = c.toNat / 256 % 16 := by
  simp [lenm1Field, Nat.shiftRight_eq_div_pow]

theorem opField_eq_iff (c : Word) (k : BitVec 4) : opField c = k ↔ c.toNat % 16 = k.toNat := by
  rw [← BitVec.toNat_inj, opField_toNat]

theorem kszField_eq_iff (c : Word) (k : BitVec 2) :
    kszField c = k ↔ c.toNat / 16 % 4 = k.toNat := by
  rw [← BitVec.toNat_inj, kszField_toNat]

theorem lenm1Field_eq_iff (c : Word) (k : BitVec 4) :
    lenm1Field c = k ↔ c.toNat / 256 % 16 = k.toNat := by
  rw [← BitVec.toNat_inj, lenm1Field_toNat]

/-- Bits `[31:12]` are the quotient by 4096, because a word has no bit above 31. -/
theorem reservedSet_iff (c : Word) :
    reservedSet c = true ↔ c.toNat / 4096 ≠ 0 ∨ c.toNat / 64 % 4 ≠ 0 := by
  have hhigh : c.toNat / 4096 % 2 ^ 20 = c.toNat / 4096 := by omega
  simp only [reservedSet, Bool.or_eq_true, bne_iff_ne, ne_eq, ← BitVec.toNat_inj,
    BitVec.extractLsb'_toNat, Nat.shiftRight_eq_div_pow, hhigh]
  rfl

@[simp] theorem KeySize.ofCode_code (size : KeySize) : KeySize.ofCode size.code = some size := by
  cases size <;> rfl

/-- Every code but 3 is the code of a key size (R105). -/
theorem KeySize.exists_code_eq (ksz : BitVec 2) (h : ksz ≠ 3) :
    ∃ size : KeySize, size.code = ksz := by
  have hcode : ksz = 0 ∨ ksz = 1 ∨ ksz = 2 := by bv_omega
  obtain rfl | rfl | rfl := hcode
  · exact ⟨.k128, rfl⟩
  · exact ⟨.k192, rfl⟩
  · exact ⟨.k256, rfl⟩

section DecodeTests

variable {c : Word}

theorem decode_of_six_le_op (hop : 6 ≤ (opField c).toNat) : decode c = .reject .badOp := by
  simp [decode, hop]

theorem decode_of_reservedSet (hop : (opField c).toNat < 6) (hres : reservedSet c = true) :
    decode c = .reject .badField := by
  simp [decode, Nat.not_le.2 hop, hres]

theorem decode_of_unused_ksz (hop : (opField c).toNat < 6) (hres : ¬reservedSet c = true)
    (hkey : opField c ≠ 1) (hksz : kszField c ≠ 0) : decode c = .reject .badField := by
  simp only [decode, if_neg (Nat.not_le.2 hop), if_neg hres, if_pos (And.intro hkey hksz)]

theorem decode_of_unused_lenm1 (hop : (opField c).toNat < 6) (hres : ¬reservedSet c = true)
    (hused : opField c = 1 ∨ kszField c = 0) (hxor : opField c ≠ 5) (hlen : lenm1Field c ≠ 0) :
    decode c = .reject .badField := by
  have hksz : ¬(opField c ≠ 1 ∧ kszField c ≠ 0) := by tauto
  simp only [decode, if_neg (Nat.not_le.2 hop), if_neg hres, if_neg hksz,
    if_pos (And.intro hxor hlen)]

theorem decode_of_keyinit_bad_ksz (hop : opField c = 1) (hres : ¬reservedSet c = true)
    (hlen : lenm1Field c = 0) (hksz : kszField c = 3) : decode c = .reject .badKsz := by
  simp [decode, hop, hres, hlen, hksz, KeySize.ofCode]

theorem decode_of_keyinit (size : KeySize) (hop : opField c = 1) (hres : ¬reservedSet c = true)
    (hlen : lenm1Field c = 0) (hksz : kszField c = size.code) :
    decode c = .cmd (.keyinit size) := by
  simp [decode, hop, hres, hlen, hksz]

/-- The commands without an operand, numbered by the opcode (R102). -/
theorem decode_of_no_operand (hres : ¬reservedSet c = true) (hksz : kszField c = 0)
    (hlen : lenm1Field c = 0) :
    (opField c = 0 → decode c = .cmd .nop) ∧ (opField c = 2 → decode c = .cmd .enc) ∧
    (opField c = 3 → decode c = .cmd .dec) ∧ (opField c = 4 → decode c = .cmd .ofbinit) := by
  refine ⟨fun hop => ?_, fun hop => ?_, fun hop => ?_, fun hop => ?_⟩ <;>
    simp [decode, hop, hres, hksz, hlen]

theorem decode_of_ofbxor (hop : opField c = 5) (hres : ¬reservedSet c = true)
    (hksz : kszField c = 0) : decode c = .cmd (.ofbxor ((lenm1Field c).toNat + 1)) := by
  simp [decode, hop, hres, hksz]

end DecodeTests

/-- Settles O3: each clause is one test of `decode`, its fields read as quotients and remainders
(R103). -/
theorem decodeTestsInOrder : Obligations.DecodeTestsInOrder := by
  intro c op ksz lenm1 reserved
  have hopNat : (opField c).toNat = op := opField_toNat c
  have hop (k : BitVec 4) : opField c = k ↔ op = k.toNat := opField_eq_iff c k
  have hksz (k : BitVec 2) : kszField c = k ↔ ksz = k.toNat := kszField_eq_iff c k
  have hlen (k : BitVec 4) : lenm1Field c = k ↔ lenm1 = k.toNat := lenm1Field_eq_iff c k
  have hres : reservedSet c = true ↔ reserved := reservedSet_iff c
  refine ⟨?badOp, ?reserved, ?unusedKsz, ?unusedLenm1, ?badKsz, ?keyinit, ?noOperand, ?ofbxor⟩
  case badOp =>
    intro hge
    exact decode_of_six_le_op (hge.trans_eq hopNat.symm)
  case reserved =>
    intro hlt hset
    exact decode_of_reservedSet (hopNat.trans_lt hlt) (hres.2 hset)
  case unusedKsz =>
    intro hlt hclear hne1 hne0
    exact decode_of_unused_ksz (hopNat.trans_lt hlt) (mt hres.1 hclear) (mt (hop 1).1 hne1)
      (mt (hksz 0).1 hne0)
  case unusedLenm1 =>
    intro hlt hclear hused hne5 hne0
    exact decode_of_unused_lenm1 (hopNat.trans_lt hlt) (mt hres.1 hclear)
      (hused.imp (hop 1).2 (hksz 0).2) (mt (hop 5).1 hne5) (mt (hlen 0).1 hne0)
  case badKsz =>
    intro h1 hclear h0 h3
    exact decode_of_keyinit_bad_ksz ((hop 1).2 h1) (mt hres.1 hclear) ((hlen 0).2 h0)
      ((hksz 3).2 h3)
  case keyinit =>
    intro h1 hclear h0 hne3
    obtain ⟨size, hsize⟩ := KeySize.exists_code_eq (kszField c) (mt (hksz 3).1 hne3)
    refine ⟨size, ?_, ?_⟩
    · rw [KeySize.nk, hsize, kszField_toNat]
    · exact decode_of_keyinit size ((hop 1).2 h1) (mt hres.1 hclear) ((hlen 0).2 h0) hsize.symm
  case noOperand =>
    intro hclear hk0 hl0
    obtain ⟨hnop, henc, hdec, hofbinit⟩ :=
      decode_of_no_operand (mt hres.1 hclear) ((hksz 0).2 hk0) ((hlen 0).2 hl0)
    exact ⟨hnop ∘ (hop 0).2, henc ∘ (hop 2).2, hdec ∘ (hop 3).2, hofbinit ∘ (hop 4).2⟩
  case ofbxor =>
    intro hclear hk0 h5
    rw [decode_of_ofbxor ((hop 5).2 h5) (mt hres.1 hclear) ((hksz 0).2 hk0), lenm1Field_toNat]

end Sys2Proof
end

section
/-! The command lifecycle: a host write to `CMD` of an idle and of a busy engine (R130, R131), and
`NOP` (R136). -/

namespace Sys2Proof.Machine

/-- `CMD` is the register at word index 0 (R32). -/
theorem regAt_zero : regAt 0 = .cmd := regAt_cmd rfl

theorem busWrite_cmd_of_idle (c : Word) (s : State) (hidle : s.busy = false) :
    busWrite 0 c s = issue c s := by
  rw [busWrite_cmd c s regAt_zero, if_neg (Bool.eq_false_iff.1 hidle)]

theorem busWrite_cmd_of_busy (c : Word) (s : State) (hbusy : s.busy = true) :
    busWrite 0 c s = dropWrite s := by
  rw [busWrite_cmd c s regAt_zero, if_pos hbusy]

/-- Settles O6: the write is an issue, and `BUSY` is untouched when the write is taken off the
agenda. -/
theorem issueCapturesAnyWord : Obligations.IssueCapturesAnyWord := by
  intro c s rest hagenda hidle
  rw [step_write s 0 c rest hagenda, busWrite_cmd_of_idle c (setAgenda rest s) hidle]
  rfl

/-- Settles O7: the write is dropped, and `BUSY` is untouched when the write is taken off the
agenda. -/
theorem commandWriteWhileBusyIsDropped : Obligations.CommandWriteWhileBusyIsDropped := by
  intro c s rest hagenda hbusy
  rw [step_write s 0 c rest hagenda, busWrite_cmd_of_busy c (setAgenda rest s) hbusy]
  rfl

/-- A command without an operand has one word, its opcode: a bit above the opcode lies in a reserved
field, in `KSZ` or in `LENM1` (R103). -/
theorem decode_badField_of_no_operand (c : Word) (hop : c.toNat % 16 < 6)
    (hkey : c.toNat % 16 ≠ 1) (hxor : c.toNat % 16 ≠ 5) (habove : 16 ≤ c.toNat) :
    decode c = .reject .badField := by
  obtain ⟨-, ofReserved, ofKsz, ofLenm1, -⟩ := decodeTestsInOrder c
  by_cases hres : c.toNat / 4096 ≠ 0 ∨ c.toNat / 64 % 4 ≠ 0
  · exact ofReserved hop hres
  by_cases hksz : c.toNat / 16 % 4 = 0
  · have hlenm1 : c.toNat / 256 % 16 ≠ 0 := by omega
    exact ofLenm1 hop hres (.inr hksz) hxor hlenm1
  · exact ofKsz hop hres hkey hksz

/-- `NOP` does nothing but complete (R136). -/
theorem exec_nop (s : State) : exec .nop s = .next (finish .ok s) := rfl

/-- Settles O10: the encoding of `NOP` from the tests of `Decode`, its completion from `exec_nop`,
and the value of `STATUS` after reset, an issue and a completion (R34, R136). -/
theorem nopOnlyCompletes : Obligations.NopOnlyCompletes := by
  refine ⟨rfl, fun c hop hne => ?badField, exec_nop, _, exec_nop _, rfl⟩
  case badField =>
    have hpos : c.toNat ≠ 0 := BitVec.toNat_ne.1 hne
    exact decode_badField_of_no_operand c (by omega) (by omega) (by omega) (by omega)

end Sys2Proof.Machine
end

section
/-! `OFBINIT`: the stream it starts and the keystream block it leaves (R43, R241). -/

namespace Sys2Proof.Machine

/-- `OFBINIT` starts its stream in every state: it needs neither a key nor a stream (R241). -/
theorem exec_ofbinit (s : State) :
    exec .ofbinit s = .next (finish .ok (setStream (blockOf s.iv) 0 true s)) := rfl

/-- A host write does not reach the keystream block, whatever the register (R76). -/
theorem busWrite_ks (idx : WordIndex) (v : Word) (s : State) : (busWrite idx v s).ks = s.ks := by
  obtain ⟨-, -, -, hks, -⟩ := busWrite_frame idx v s
  exact hks

/-- Settles O41: the encoding from the tests of `Decode`, the completion from `exec_ofbinit` with the
bytes of `IV` as quotients, and the frame of a host write. -/
theorem ofbinitStartsAStream : Obligations.OfbinitStartsAStream := by
  refine ⟨rfl, fun c hop hne => ?badField, fun s => ⟨_, exec_ofbinit s, fun k j => ?ksBytes, rfl⟩,
    busWrite_ks⟩
  case badField =>
    have hnat : c.toNat ≠ 4 := BitVec.toNat_ne.1 hne
    exact decode_badField_of_no_operand c (by omega) (by omega) (by omega) (by omega)
  case ksBytes =>
    simp only [finish_ks, setStream_ks]
    rw [blockOf_getElem_word, wordByte_toNat]

end Sys2Proof.Machine
end

section
/-! Words composed of fields, as sums (R34, R101). -/

namespace Sys2Proof

/-- Two words without a common bit: the one is a multiple of a power of two and the other lies below
it. -/
theorem toNat_or_eq_add {x y : Word} (k : Nat) (hx : 2 ^ k ∣ x.toNat) (hy : y.toNat < 2 ^ k) :
    (x ||| y).toNat = x.toNat + y.toNat := by
  obtain ⟨q, hq⟩ := hx
  rw [BitVec.toNat_or, hq, Nat.two_pow_add_eq_or_of_lt hy]

/-- A field at its place in a word. -/
theorem toNat_field {n : Nat} (f : BitVec n) (k : Nat) (h : n + k ≤ 32) :
    (f.setWidth 32 <<< k).toNat = f.toNat * 2 ^ k := by
  have hfield : f.toNat * 2 ^ k < 2 ^ 32 :=
    calc f.toNat * 2 ^ k < 2 ^ n * 2 ^ k := Nat.mul_lt_mul_of_pos_right f.isLt (Nat.two_pow_pos k)
      _ = 2 ^ (n + k) := (Nat.pow_add 2 n k).symm
      _ ≤ 2 ^ 32 := Nat.pow_le_pow_right (by omega) h
  have hsource : f.toNat < 2 ^ 32 :=
    lt_of_le_of_lt (Nat.le_mul_of_pos_right _ (Nat.two_pow_pos k)) hfield
  rw [BitVec.toNat_shiftLeft, BitVec.toNat_setWidth, Nat.mod_eq_of_lt hsource, Nat.shiftLeft_eq,
    Nat.mod_eq_of_lt hfield]

/-- One more field below a word's lowest one, with nothing between them. -/
theorem toNat_or_field {x : Word} {n a : Nat} (f : BitVec n) (k : Nat) (h : n + k ≤ 32)
    (hx : x.toNat = a * 2 ^ (n + k)) :
    (x ||| f.setWidth 32 <<< k).toNat = (a * 2 ^ n + f.toNat) * 2 ^ k := by
  have hbelow : (f.setWidth 32 <<< k).toNat < 2 ^ (n + k) := by
    rw [toNat_field f k h, Nat.pow_add]
    exact Nat.mul_lt_mul_of_pos_right f.isLt (Nat.two_pow_pos k)
  rw [toNat_or_eq_add (n + k) (Dvd.intro_left a hx.symm) hbelow, hx, toNat_field f k h]
  ring

end Sys2Proof
end

section
/-! The encoder against `Decode`: encoding and decoding undo each other, and the 23 words that
decode (R101 to R107). -/

namespace Sys2Proof

section CommandWord

variable (lenm1 : BitVec 4) (ksz : BitVec 2) (op : BitVec 4)

/-- The fields of an encoded word as a sum (R101). -/
theorem commandWord_toNat :
    (commandWord lenm1 ksz op).toNat = lenm1.toNat * 256 + ksz.toNat * 16 + op.toNat := by
  have hlen := toNat_field lenm1 8 (by omega)
  have hksz := toNat_or_field ksz 4 (by omega) (hlen.trans (Nat.mul_assoc _ 4 (2 ^ 6)).symm)
  have hop := toNat_or_field op 0 (by omega) hksz
  rw [BitVec.shiftLeft_zero] at hop
  refine hop.trans ?_
  omega

@[simp] theorem opField_commandWord : opField (commandWord lenm1 ksz op) = op := by
  rw [opField_eq_iff, commandWord_toNat]
  omega

@[simp] theorem kszField_commandWord : kszField (commandWord lenm1 ksz op) = ksz := by
  rw [kszField_eq_iff, commandWord_toNat]
  omega

@[simp] theorem lenm1Field_commandWord : lenm1Field (commandWord lenm1 ksz op) = lenm1 := by
  rw [lenm1Field_eq_iff, commandWord_toNat]
  omega

theorem reservedSet_commandWord : ¬reservedSet (commandWord lenm1 ksz op) = true := by
  rw [reservedSet_iff, commandWord_toNat]
  omega

end CommandWord

/-- A word without reserved bits is made of its three fields (R101). -/
theorem commandWord_of_fields (c : Word) (hres : ¬reservedSet c = true) :
    commandWord (lenm1Field c) (kszField c) (opField c) = c := by
  rw [reservedSet_iff] at hres
  apply BitVec.eq_of_toNat_eq
  rw [commandWord_toNat, lenm1Field_toNat, kszField_toNat, opField_toNat]
  omega

theorem wf_ofbxor_iff (n : Nat) : (Instr.ofbxor n).wf = true ↔ 1 ≤ n ∧ n ≤ 16 := by
  simp [Instr.wf]

/-- Settles O1: the fields of the encoded word are the ones `Decode` tests (R101 to R106). -/
theorem decodeInvertsEncode : Obligations.DecodeInvertsEncode := by
  intro i hwf
  have hop := opField_commandWord
  have hres := reservedSet_commandWord
  have hksz := kszField_commandWord
  have hlen := lenm1Field_commandWord
  have noOperand (op : BitVec 4) :=
    decode_of_no_operand (hres 0 0 op) (hksz 0 0 op) (hlen 0 0 op)
  cases i with
  | nop => obtain ⟨h, -⟩ := noOperand 0; exact h (hop 0 0 0)
  | enc => obtain ⟨-, h, -⟩ := noOperand 2; exact h (hop 0 0 2)
  | dec => obtain ⟨-, -, h, -⟩ := noOperand 3; exact h (hop 0 0 3)
  | ofbinit => obtain ⟨-, -, -, h⟩ := noOperand 4; exact h (hop 0 0 4)
  | keyinit size => exact decode_of_keyinit size (hop _ _ _) (hres _ _ _) (hlen _ _ _) (hksz _ _ _)
  | ofbxor n =>
    obtain ⟨hpos, hle⟩ := (wf_ofbxor_iff n).1 hwf
    have hcount : (BitVec.ofNat 4 (n - 1)).toNat + 1 = n := by
      rw [BitVec.toNat_ofNat]
      omega
    rw [encode, decode_of_ofbxor (hop _ _ _) (hres _ _ _) (hksz _ _ _), hlen, hcount]

/-- What `Decode` has found out about a word that it takes for a command (R103). -/
theorem fields_of_decode_cmd {c : Word} {i : Instr} (h : decode c = .cmd i) :
    (opField c).toNat < 6 ∧ ¬reservedSet c = true ∧ (opField c = 1 ∨ kszField c = 0) ∧
    (opField c = 5 ∨ lenm1Field c = 0) := by
  have notRejected (code : ErrCode) : decode c ≠ .reject code := by simp [h]
  have hop : (opField c).toNat < 6 := by
    by_contra hge
    exact notRejected _ (decode_of_six_le_op (Nat.not_lt.1 hge))
  have hres : ¬reservedSet c = true := fun hset => notRejected _ (decode_of_reservedSet hop hset)
  have hksz : opField c = 1 ∨ kszField c = 0 := by
    by_contra hunused
    rw [not_or] at hunused
    exact notRejected _ (decode_of_unused_ksz hop hres hunused.1 hunused.2)
  have hlen : opField c = 5 ∨ lenm1Field c = 0 := by
    by_contra hunused
    rw [not_or] at hunused
    exact notRejected _ (decode_of_unused_lenm1 hop hres hksz hunused.1 hunused.2)
  exact ⟨hop, hres, hksz, hlen⟩

/-- A word that decodes is the encoding of a well-formed command that it decodes to: each opcode
admits just the fields that the encoder writes (R101 to R106). -/
theorem exists_encode_eq_of_decode_cmd {c : Word} {i : Instr} (h : decode c = .cmd i) :
    ∃ j : Instr, j.wf = true ∧ encode j = c := by
  obtain ⟨hlt, hres, hksz, hlen⟩ := fields_of_decode_cmd h
  have hword := commandWord_of_fields c hres
  have hop : opField c = 0 ∨ opField c = 1 ∨ opField c = 2 ∨ opField c = 3 ∨ opField c = 4 ∨
      opField c = 5 := by bv_omega
  obtain hop | hop | hop | hop | hop | hop := hop <;> rw [hop] at hksz hlen hword
  case inr.inl =>
    have hlen0 := hlen.resolve_left (by decide)
    have hsize : kszField c ≠ 3 := by
      intro hbad
      simp [decode_of_keyinit_bad_ksz hop hres hlen0 hbad] at h
    obtain ⟨size, hcode⟩ := KeySize.exists_code_eq (kszField c) hsize
    exact ⟨.keyinit size, rfl, by rw [← hword, hlen0, ← hcode]; rfl⟩
  case inr.inr.inr.inr.inr =>
    refine ⟨.ofbxor ((lenm1Field c).toNat + 1), (wf_ofbxor_iff _).2 (by omega), ?_⟩
    rw [hksz.resolve_left (by decide)] at hword
    rw [encode, Nat.add_sub_cancel, BitVec.ofNat_toNat, BitVec.setWidth_eq, hword]
  all_goals rw [hksz.resolve_left (by decide), hlen.resolve_left (by decide)] at hword
  · exact ⟨.nop, rfl, hword⟩
  · exact ⟨.enc, rfl, hword⟩
  · exact ⟨.dec, rfl, hword⟩
  · exact ⟨.ofbinit, rfl, hword⟩

/-- Settles O2: the word is the encoding of a command, and that command is the one it decodes to. -/
theorem decodedWordIsItsEncoding : Obligations.DecodedWordIsItsEncoding := by
  intro c i h
  obtain ⟨j, hwf, rfl⟩ := exists_encode_eq_of_decode_cmd h
  rw [decodeInvertsEncode j hwf, Decoded.cmd.injEq] at h
  exact ⟨h ▸ hwf, h ▸ rfl⟩

/-- The words of the well-formed commands are the listed ones (R107). -/
theorem mem_commandWords_iff (c : Word) :
    c ∈ Machine.commandWords ↔ ∃ i : Instr, i.wf = true ∧ encode i = c := by
  have hofbxor (k : Fin 16) : encode (.ofbxor (k.val + 1)) = BitVec.ofNat 32 (5 + 256 * k.val) := by
    revert k
    decide
  constructor
  · intro h
    obtain hfixed | ⟨k, hk, rfl⟩ := by
      simpa only [Machine.commandWords, List.mem_append, List.mem_map, List.mem_range] using h
    · simp only [List.mem_cons, List.not_mem_nil, or_false] at hfixed
      obtain rfl | rfl | rfl | rfl | rfl | rfl | rfl := hfixed
      · exact ⟨.nop, rfl, rfl⟩
      · exact ⟨.keyinit .k128, rfl, rfl⟩
      · exact ⟨.keyinit .k192, rfl, rfl⟩
      · exact ⟨.keyinit .k256, rfl, rfl⟩
      · exact ⟨.enc, rfl, rfl⟩
      · exact ⟨.dec, rfl, rfl⟩
      · exact ⟨.ofbinit, rfl, rfl⟩
    · exact ⟨.ofbxor (k + 1), (wf_ofbxor_iff _).2 (by omega), hofbxor ⟨k, hk⟩⟩
  · rintro ⟨i, hwf, rfl⟩
    cases i with
    | nop | enc | dec | ofbinit => decide
    | keyinit size => cases size <;> decide
    | ofbxor n =>
      obtain ⟨hpos, hle⟩ := (wf_ofbxor_iff n).1 hwf
      obtain ⟨k, rfl⟩ := Nat.exists_eq_add_of_le' hpos
      rw [hofbxor ⟨k, by omega⟩]
      exact List.mem_append_right _ (List.mem_map.2 ⟨k, List.mem_range.2 (by omega), rfl⟩)

/-- Settles O4: the words that decode are the encodings of the well-formed commands, by O1 and O2.
-/
theorem exactlyTwentyThreeWordsDecode : Obligations.ExactlyTwentyThreeWordsDecode := by
  refine ⟨by decide, rfl, fun c => ?_⟩
  rw [mem_commandWords_iff]
  constructor
  · rintro ⟨i, h⟩
    exact ⟨i, decodedWordIsItsEncoding c i h⟩
  · rintro ⟨i, hwf, rfl⟩
    exact ⟨i, decodeInvertsEncode i hwf⟩

/-- Settles O5: each word is the encoding of its command. -/
theorem writtenOutWordsDecode : Obligations.WrittenOutWordsDecode :=
  ⟨decodeInvertsEncode .nop rfl, decodeInvertsEncode (.keyinit .k256) rfl,
    decodeInvertsEncode .enc rfl, decodeInvertsEncode .dec rfl, decodeInvertsEncode .ofbinit rfl,
    decodeInvertsEncode (.ofbxor 12) rfl⟩

end Sys2Proof
end

section
/-! The lengths of a schedule (R7, R152), and what `KEYINIT` leaves in the storage (R42, R153). -/

namespace Sys2Proof

@[simp] theorem KeySize.nk_k128 : KeySize.k128.nk = 4 := rfl
@[simp] theorem KeySize.nk_k192 : KeySize.k192.nk = 6 := rfl
@[simp] theorem KeySize.nk_k256 : KeySize.k256.nk = 8 := rfl

theorem KeySize.nk_le_nw (size : KeySize) : size.nk ≤ size.nw := by cases size <;> decide

theorem KeySize.nw_le (size : KeySize) : size.nw ≤ 60 := by cases size <;> decide

namespace Machine

/-- `KeyExpansion` makes `NW` rows (R152). -/
@[simp] theorem keyExpansion_length (key : List Byte) (size : KeySize) :
    (keyExpansion key size).length = size.nw := by
  rw [keyExpansion, expandRows_length, seedRows_length]
  exact Nat.add_sub_of_le size.nk_le_nw

/-- The first `NW` words of a filled storage are the rows of the key expansion (R42, R153). -/
theorem fillSchedule_keyExpansion_getElem? (key : List Byte) (size : KeySize) (draws r : Nat)
    (hr : r < size.nw) :
    (fillSchedule (keyExpansion key size) draws)[r]? = (keyExpansion key size)[r]? :=
  fillSchedule_getElem? _ _ r (hr.trans_le size.nw_le) (by rwa [keyExpansion_length])

end Machine

end Sys2Proof
end

section
/-! The invariant, kept by each thing that a step can do (R34, R42, R43, R130, R132). -/

namespace Sys2Proof.Machine

variable {s : State}

theorem inv_afterReset (draws : Nat) (agenda : List Event) (reads : List ReadRecord) :
    (State.afterReset draws agenda reads).Inv := by
  simp [State.Inv, State.afterReset]

/-- Only an issue sets `BUSY`, and it clears `DONE` (R130); a dropped write or an acknowledgement
sets neither (R76, R131). -/
theorem inv_busWrite (idx : WordIndex) (v : Word) (h : s.Inv) : (busWrite idx v s).Inv := by
  obtain ⟨hbusy, hsize, hpos, hschedule⟩ := h
  rcases busWrite_cases idx v s with ⟨_, e⟩ | ⟨_, _, e⟩ | ⟨_, e⟩ | ⟨_, e⟩ | ⟨_, _, _, e⟩ |
    ⟨_, _, _, e⟩ | ⟨_, _, _, e⟩ | e <;> rw [e] <;>
    exact ⟨by simp +contextual [hbusy], hsize, hpos, hschedule⟩

/-- A completion clears `BUSY` and leaves the context and the stream alone (R132). -/
theorem inv_finish (code : ErrCode) (h : s.Inv) : (finish code s).Inv := by
  obtain ⟨-, hsize, hpos, hschedule⟩ := h
  exact ⟨by simp, hsize, hpos, hschedule⟩

/-- `KEYINIT` makes a context of a key and ends the stream (R153), `OFBINIT` starts one at position
0 (R241), and only a command that has a stream moves its position (R242). -/
theorem inv_effect (i : Instr) (hstream : needsStream i = true → s.ofbReady = true) (h : s.Inv) :
    (effect i s).Inv := by
  obtain ⟨hbusy, hsize, hpos, hschedule⟩ := h
  cases i with
  | nop | enc | dec => exact ⟨hbusy, hsize, hpos, hschedule⟩
  | keyinit size =>
    exact ⟨hbusy, by simp [effect], fun _ => rfl,
      fun _ => ⟨s.key, fillSchedule_keyExpansion_getElem? _ _ _⟩⟩
  | ofbinit => exact ⟨hbusy, hsize, fun _ => rfl, hschedule⟩
  | ofbxor n => exact ⟨hbusy, hsize, by simp [effect, hstream rfl], hschedule⟩

theorem inv_complete {t : State} (h : s.Inv) (hcomplete : complete s = .next t) : t.Inv := by
  rcases complete_cases s t hcomplete with ⟨i, _, _, hstream, rfl⟩ | ⟨code, _, rfl⟩
  · exact inv_finish .ok (inv_effect i hstream h)
  · exact inv_finish code h

/-- Settles O51: a reset leaves an idle engine without a context and without a stream. -/
theorem invariantHoldsAfterReset : Obligations.InvariantHoldsAfterReset := inv_afterReset 0 [] []

/-- Settles O52: each thing that a step can do keeps the invariant; the agenda and the record of
reads do not enter into it. -/
theorem everyStepKeepsTheInvariant : Obligations.EveryStepKeepsTheInvariant := by
  intro s t hinv hstep
  have hagenda (rest : List Event) : (setAgenda rest s).Inv := hinv
  rcases step_cases s with ⟨idx, rest, _, e⟩ | ⟨idx, v, rest, _, e⟩ | ⟨rest, _, _, e⟩ |
    ⟨rest, _, _, e⟩ | ⟨rest, _, e⟩ <;> rw [e] at hstep
  case inr.inr.inl => exact inv_complete (hagenda rest) hstep
  all_goals obtain rfl := Host.Outcome.next.inj hstep
  · exact hagenda rest
  · exact inv_busWrite idx v (hagenda rest)
  · exact hagenda rest
  · exact inv_afterReset _ _ _

end Sys2Proof.Machine
end

section
/-! A completion as a function of the state: its code, its effect, and the step that runs it (R132,
R133, R272). -/

namespace Sys2Proof.Machine

/-- The code that a decoded command completes with: the key is checked before the stream (R272). -/
def execCode (i : Instr) (s : State) : ErrCode :=
  if needsKey i = true ∧ s.ctxValid = false then .noKey
  else if needsStream i = true ∧ s.ofbReady = false then .noIv
  else .ok

section

variable (s : State)

@[simp] theorem execCode_nop : execCode .nop s = .ok := by
  simp [execCode, needsKey, needsStream]

@[simp] theorem execCode_keyinit (size : KeySize) : execCode (.keyinit size) s = .ok := by
  simp [execCode, needsKey, needsStream]

@[simp] theorem execCode_enc : execCode .enc s = if s.ctxValid = false then .noKey else .ok := by
  simp [execCode, needsKey, needsStream]

@[simp] theorem execCode_dec : execCode .dec s = if s.ctxValid = false then .noKey else .ok := by
  simp [execCode, needsKey, needsStream]

@[simp] theorem execCode_ofbinit : execCode .ofbinit s = .ok := by
  simp [execCode, needsKey, needsStream]

@[simp] theorem execCode_ofbxor (n : Nat) : execCode (.ofbxor n) s =
    if s.ctxValid = false then .noKey else if s.ofbReady = false then .noIv else .ok := by
  simp [execCode, needsKey, needsStream]

end

/-- What a command leaves before the completion's own writes: its effect, or nothing if it fails
(R133). -/
def performed (i : Instr) (s : State) : State := if execCode i s = .ok then effect i s else s

/-- Every command completes, with its code and with its effect where the code is `OK` (R132, R133).
-/
theorem exec_eq_finish (i : Instr) (s : State) :
    exec i s = .next (finish (execCode i s) (performed i s)) := by
  rcases exec_cases i s with ⟨hkey, hstream, e⟩ | ⟨hkey, hvalid, e⟩ | ⟨hstream, hvalid, hready, e⟩
  · have hcode : execCode i s = .ok := by
      rw [execCode, if_neg fun h => by simp [hkey h.1] at h,
        if_neg fun h => by simp [hstream h.1] at h]
    rw [e, performed, hcode, if_pos rfl]
  · have hcode : execCode i s = .noKey := if_pos ⟨hkey, hvalid⟩
    rw [e, performed, hcode, if_neg (by decide)]
  · have hcode : execCode i s = .noIv := by
      rw [execCode, if_neg (by simp [hvalid]), if_pos ⟨hstream, hready⟩]
    rw [e, performed, hcode, if_neg (by decide)]

theorem performed_of_failed {i : Instr} {s : State} (h : execCode i s ≠ .ok) : performed i s = s :=
  if_neg h

theorem performed_of_ok {i : Instr} {s : State} (h : execCode i s = .ok) :
    performed i s = effect i s :=
  if_pos h

/-- A command that completes with `OK` has what it needs (R272). -/
theorem operands_of_ok {i : Instr} {s : State} (h : execCode i s = .ok) :
    (needsKey i = true → s.ctxValid = true) ∧ (needsStream i = true → s.ofbReady = true) := by
  unfold execCode at h
  split_ifs at h with hkey hstream
  exact ⟨by simpa using hkey, by simpa using hstream⟩

/-- A command writes at most the context, the stream, the output block and the count of free draws
before its completion. -/
theorem effect_frame (i : Instr) (s : State) :
    effect i s = { s with
      dout := (effect i s).dout, ctxValid := (effect i s).ctxValid,
      ctxKsz := (effect i s).ctxKsz, w := (effect i s).w, ks := (effect i s).ks,
      ofbReady := (effect i s).ofbReady, ofbPos := (effect i s).ofbPos,
      draws := (effect i s).draws } := by
  cases i <;> rfl

theorem complete_of_cmd {i : Instr} {s : State} (h : decode s.pend = .cmd i) :
    complete s = exec i s := by
  simp only [complete, h]

theorem complete_of_reject {code : ErrCode} {s : State} (h : decode s.pend = .reject code) :
    complete s = .next (finish code s) := by
  simp only [complete, h, reject]

/-- The code that the pending word completes with (R132, R133). -/
def completionCode (s : State) : ErrCode :=
  match decode s.pend with
  | .cmd i => execCode i s
  | .reject code => code

/-- What the pending word leaves before the completion's own writes (R132, R133). -/
def completionEffect (s : State) : State :=
  match decode s.pend with
  | .cmd i => performed i s
  | .reject _ => s

theorem completionCode_of_cmd {i : Instr} {s : State} (h : decode s.pend = .cmd i) :
    completionCode s = execCode i s := by
  simp only [completionCode, h]

theorem completionCode_of_reject {code : ErrCode} {s : State} (h : decode s.pend = .reject code) :
    completionCode s = code := by
  simp only [completionCode, h]

/-- Every pending word completes (R132). -/
theorem complete_eq_finish (s : State) :
    complete s = .next (finish (completionCode s) (completionEffect s)) := by
  cases h : decode s.pend with
  | cmd i => rw [complete_of_cmd h, exec_eq_finish, completionCode_of_cmd h, completionEffect, h]
  | reject code => rw [complete_of_reject h, completionCode_of_reject h, completionEffect, h]

/-- The event that is next takes place, whatever it is (R79, R134). -/
theorem step_of_next {s : State} {e : Event} {rest : List Event} (h : s.Next e rest) :
    step s = perform e (setAgenda rest s) := by
  rcases h with h | ⟨h, rfl, rfl⟩
  · simp only [step, nextEvent, h]
  · have hsame : setAgenda [] s = s := by rw [← h, setAgenda_self]
    simp only [step, nextEvent, h, hsame]

theorem exists_next (s : State) : ∃ e rest, s.Next e rest := by
  cases h : s.agenda with
  | nil => exact ⟨_, _, .inr ⟨h, rfl, rfl⟩⟩
  | cons e rest => exact ⟨e, rest, .inl h⟩

theorem step_complete_of_busy {s : State} {rest : List Event} (h : s.Next .complete rest)
    (hbusy : s.busy = true) : step s = complete (setAgenda rest s) := by
  rw [step_of_next h]
  exact if_pos hbusy

/-- A command that is performed leaves everything alone that its effect leaves alone. -/
theorem performed_frame (i : Instr) (s : State) :
    performed i s = { s with
      dout := (performed i s).dout, ctxValid := (performed i s).ctxValid,
      ctxKsz := (performed i s).ctxKsz, w := (performed i s).w, ks := (performed i s).ks,
      ofbReady := (performed i s).ofbReady, ofbPos := (performed i s).ofbPos,
      draws := (performed i s).draws } := by
  unfold performed
  split
  · exact effect_frame i s
  · rfl

end Sys2Proof.Machine
end

section
/-! Commands and the engine's turn: what completes, with which code, and what a failure leaves alone
(R107, R132, R133, R270 to R272). -/

namespace Sys2Proof.Machine

/-- Settles O8: the agenda does not enter into what the pending word is. -/
theorem stepRunsTheDecodedCommand : Obligations.StepRunsTheDecodedCommand := by
  intro i s rest hnext hbusy hdecode
  rw [step_complete_of_busy hnext hbusy, complete_of_cmd (s := setAgenda rest s) hdecode]
  rfl

/-- Settles O9: a rejection is the completion's own writes and nothing else (R133). -/
theorem rejectedWordLeavesOnlyItsCode : Obligations.RejectedWordLeavesOnlyItsCode := by
  intro code s rest hnext hbusy hdecode
  rw [step_complete_of_busy hnext hbusy, complete_of_reject (s := setAgenda rest s) hdecode]
  rfl

/-- Settles O11: every command completes, and what it performs leaves the host's side alone. -/
theorem everyCommandCompletes : Obligations.EveryCommandCompletes := by
  intro i s
  have hagenda := congrArg State.agenda (performed_frame i s)
  have hreads := congrArg State.reads (performed_frame i s)
  exact ⟨_, exec_eq_finish i s, rfl, rfl, hagenda, hreads⟩

/-- Settles O12: whatever event is next, it takes place. -/
theorem everyStepGoesOn : Obligations.EveryStepGoesOn := by
  intro s
  obtain ⟨e, rest, hnext⟩ := exists_next s
  rw [step_of_next hnext]
  cases e with
  | read | write | reset => exact ⟨_, rfl⟩
  | complete =>
    cases hbusy : (setAgenda rest s).busy
    · exact ⟨_, by rw [perform, hbusy]; rfl⟩
    · exact ⟨_, by rw [perform, hbusy]; exact complete_eq_finish _⟩

/-- Settles O13: a command that fails performs nothing. -/
theorem failedCommandHasNoOtherEffect : Obligations.FailedCommandHasNoOtherEffect := by
  intro i s t hexec hfailed
  obtain rfl := Host.Outcome.next.inj ((exec_eq_finish i s).symm.trans hexec)
  have hunchanged : performed i s = s := performed_of_failed hfailed
  rw [hunchanged]
  rfl

/-- A command that fails ends with its code and does nothing else (R133). -/
theorem exec_of_failed {i : Instr} {s : State} {code : ErrCode} (hcode : execCode i s = code)
    (hfailed : code ≠ .ok) : exec i s = .next (finish code s) := by
  rw [exec_eq_finish, performed_of_failed (hcode.trans_ne hfailed), hcode]

/-- Settles O39: the context is checked first, then the stream (R242). -/
theorem commandsWithoutKeyOrIvAreRejected : Obligations.CommandsWithoutKeyOrIvAreRejected := by
  intro s n
  refine ⟨fun hvalid => ⟨?_, ?_, ?_⟩, fun hvalid hready => ?_⟩
  · exact exec_of_failed (code := .noKey) (by simp [hvalid]) (by decide)
  · exact exec_of_failed (code := .noKey) (by simp [hvalid]) (by decide)
  · exact exec_of_failed (code := .noKey) (by simp [hvalid]) (by decide)
  · exact exec_of_failed (code := .noIv) (by simp [hvalid, hready]) (by decide)

/-- The code of a completion in the order of R272, from the tests of `Decode` and then the command's
own. -/
theorem completionCode_by_priority (s : State) :
    let c := s.pend.toNat
    let op := c % 16
    let ksz := c / 16 % 4
    let lenm1 := c / 256 % 16
    completionCode s =
      if 6 ≤ op then .badOp
      else if c / 4096 ≠ 0 ∨ c / 64 % 4 ≠ 0 ∨ (ksz ≠ 0 ∧ op ≠ 1) ∨ (lenm1 ≠ 0 ∧ op ≠ 5) then
        .badField
      else if op = 1 ∧ ksz = 3 then .badKsz
      else if (op = 2 ∨ op = 3 ∨ op = 5) ∧ s.ctxValid = false then .noKey
      else if op = 5 ∧ s.ofbReady = false then .noIv
      else .ok := by
  intro c op ksz lenm1
  obtain ⟨badOp, reserved, unusedKsz, unusedLenm1, badKsz, keyinit, noOperand, ofbxor⟩ :=
    decodeTestsInOrder s.pend
  by_cases h6 : 6 ≤ op
  · rw [if_pos h6, completionCode_of_reject (badOp h6)]
  rw [if_neg h6]
  have hlt : op < 6 := Nat.not_le.1 h6
  by_cases hfield : c / 4096 ≠ 0 ∨ c / 64 % 4 ≠ 0 ∨ (ksz ≠ 0 ∧ op ≠ 1) ∨ (lenm1 ≠ 0 ∧ op ≠ 5)
  · rw [if_pos hfield]
    apply completionCode_of_reject
    by_cases hres : c / 4096 ≠ 0 ∨ c / 64 % 4 ≠ 0
    · exact reserved hlt hres
    by_cases hksz : op ≠ 1 ∧ ksz ≠ 0
    · exact unusedKsz hlt hres hksz.1 hksz.2
    · exact unusedLenm1 hlt hres (by omega) (by omega) (by omega)
  rw [if_neg hfield]
  have hres : ¬(c / 4096 ≠ 0 ∨ c / 64 % 4 ≠ 0) := by omega
  by_cases hone : op = 1
  · by_cases hksz : ksz = 3
    · rw [if_pos ⟨hone, hksz⟩]
      exact completionCode_of_reject (badKsz hone hres (by omega) hksz)
    · obtain ⟨size, -, hdecode⟩ := keyinit hone hres (by omega) hksz
      simp [completionCode_of_cmd hdecode, hone, hksz]
  have hksz : ksz = 0 := by omega
  by_cases hfive : op = 5
  · simp [completionCode_of_cmd (ofbxor hres hksz hfive), hfive]
  obtain ⟨nop, enc, dec, ofbinit⟩ := noOperand hres hksz (by omega)
  have hop : op = 0 ∨ op = 2 ∨ op = 3 ∨ op = 4 := by omega
  obtain hop | hop | hop | hop := hop
  · simp [completionCode_of_cmd (nop hop), hop]
  · simp [completionCode_of_cmd (enc hop), hop]
  · simp [completionCode_of_cmd (dec hop), hop]
  · simp [completionCode_of_cmd (ofbinit hop), hop]

/-- Settles O14: the step completes the pending word, and the agenda does not enter into its code.
-/
theorem completionCodeByPriority : Obligations.CompletionCodeByPriority := by
  intro s rest hnext hbusy c op ksz lenm1
  refine ⟨_, (step_complete_of_busy hnext hbusy).trans (complete_eq_finish _), ?_⟩
  exact completionCode_by_priority (setAgenda rest s)

end Sys2Proof.Machine
end

section
/-! The block functions read only the first `NW` words of the storage (R42, R193, R194). -/

namespace Sys2Proof.Machine

/-- The storages agree on every word that `nr` rounds read. -/
def AgreeUpTo (nr : Nat) (w w' : Schedule) : Prop := ∀ r : Nat, r < 4 * (nr + 1) → w'[r]? = w[r]?

section

variable {nr : Nat} {w w' : Schedule} (h : AgreeUpTo nr w w')
include h

theorem addRoundKey_congr {n : Nat} (hn : n ≤ nr) (S : Matrix) :
    addRoundKey w' n S = addRoundKey w n S := by
  apply matrix_ext
  intro row col
  have hword : scheduleRow w' (4 * n + col.val) = scheduleRow w (4 * n + col.val) := by
    rw [scheduleRow, scheduleRow, h _ (by omega)]
  rw [entry_addRoundKey, entry_addRoundKey, hword]

theorem encryptBlock_congr (b : Block) : encryptBlock w' nr b = encryptBlock w nr b := by
  have hrounds (S : Matrix) : (List.range' 1 (nr - 1)).foldl (encryptRound w') S =
      (List.range' 1 (nr - 1)).foldl (encryptRound w) S := by
    apply List.foldl_ext
    intro T round hround
    have hle : round ≤ nr := by
      obtain ⟨_, _, _⟩ := List.mem_range'.1 hround
      omega
    rw [encryptRound, encryptRound, addRoundKey_congr h hle]
  simp only [encryptBlock, hrounds, addRoundKey_congr h (Nat.zero_le nr),
    addRoundKey_congr h (Nat.le_refl nr)]

theorem decryptBlock_congr (b : Block) : decryptBlock w' nr b = decryptBlock w nr b := by
  have hrounds (S : Matrix) : (List.range' 1 (nr - 1)).reverse.foldl (decryptRound w') S =
      (List.range' 1 (nr - 1)).reverse.foldl (decryptRound w) S := by
    apply List.foldl_ext
    intro T round hround
    have hle : round ≤ nr := by
      obtain ⟨_, _, _⟩ := List.mem_range'.1 (List.mem_reverse.1 hround)
      omega
    rw [decryptRound, decryptRound, addRoundKey_congr h hle]
  simp only [decryptBlock, hrounds, addRoundKey_congr h (Nat.zero_le nr),
    addRoundKey_congr h (Nat.le_refl nr)]

end

end Sys2Proof.Machine
end

section
/-! Equality up to the unspecified values, kept by each thing that a step can do (R321). -/

namespace Sys2Proof.Machine

/-- The second state in terms of the first: only the unspecified values may be others. -/
theorem sameSpecified_iff (s t : State) : SameSpecified s t ↔ ∃ w ks draws,
    t = { s with w := w, ks := ks, draws := draws } ∧
    (s.ctxValid = true → AgreeUpTo s.ctxKsz.nr s.w w) ∧ (s.ofbReady = true → ks = s.ks) := by
  constructor
  · rintro ⟨ht, hw, hks⟩
    exact ⟨t.w, t.ks, t.draws, ht, hw, hks⟩
  · rintro ⟨w, ks, draws, rfl, hw, hks⟩
    exact ⟨rfl, hw, hks⟩

section

variable {s t : State} (h : SameSpecified s t)
include h

theorem sameSpecified_setAgenda (l : List Event) :
    SameSpecified (setAgenda l s) (setAgenda l t) := by
  obtain ⟨w, ks, draws, rfl, hw, hks⟩ := (sameSpecified_iff s t).1 h
  exact ⟨rfl, hw, hks⟩

theorem sameSpecified_noteRead (idx : WordIndex) (v : Word) :
    SameSpecified (noteRead idx v s) (noteRead idx v t) := by
  obtain ⟨w, ks, draws, rfl, hw, hks⟩ := (sameSpecified_iff s t).1 h
  exact ⟨rfl, hw, hks⟩

theorem sameSpecified_finish (code : ErrCode) : SameSpecified (finish code s) (finish code t) := by
  obtain ⟨w, ks, draws, rfl, hw, hks⟩ := (sameSpecified_iff s t).1 h
  exact ⟨rfl, hw, hks⟩

/-- A reset leaves neither a context nor a stream, so that all of `W` and `KS` is unspecified. -/
theorem sameSpecified_hardReset : SameSpecified (hardReset s) (hardReset t) := by
  obtain ⟨w, ks, draws, rfl, -, -⟩ := (sameSpecified_iff s t).1 h
  exact ⟨rfl, by simp, by simp⟩

theorem sameSpecified_busWrite (idx : WordIndex) (v : Word) :
    SameSpecified (busWrite idx v s) (busWrite idx v t) := by
  obtain ⟨w, ks, draws, rfl, hw, hks⟩ := (sameSpecified_iff s t).1 h
  cases hreg : regAt idx <;> simp only [busWrite, hreg]
  case cmd | key | din | iv => split <;> exact ⟨rfl, hw, hks⟩
  all_goals exact ⟨rfl, hw, hks⟩

theorem fields_of_sameSpecified : t.pend = s.pend ∧ t.busy = s.busy ∧ t.agenda = s.agenda := by
  obtain ⟨w, ks, draws, rfl, -, -⟩ := (sameSpecified_iff s t).1 h
  exact ⟨rfl, rfl, rfl⟩

theorem execCode_of_sameSpecified (i : Instr) : execCode i t = execCode i s := by
  obtain ⟨w, ks, draws, rfl, -, -⟩ := (sameSpecified_iff s t).1 h
  rfl

/-- A command reads the schedule only with a context, and the keystream block only with a stream. -/
theorem sameSpecified_effect (i : Instr) (hkey : needsKey i = true → s.ctxValid = true)
    (hstream : needsStream i = true → s.ofbReady = true) :
    SameSpecified (effect i s) (effect i t) := by
  obtain ⟨w, ks, draws, rfl, hw, hks⟩ := (sameSpecified_iff s t).1 h
  cases i with
  | nop => exact h
  | keyinit size =>
    refine ⟨rfl, fun _ r hr => ?_, by simp [effect]⟩
    exact (fillSchedule_keyExpansion_getElem? _ size draws r hr).trans
      (fillSchedule_keyExpansion_getElem? _ size s.draws r hr).symm
  | ofbinit => exact ⟨rfl, hw, fun _ => rfl⟩
  | enc =>
    simp only [effect, contextEncrypt, encryptBlock_congr (hw (hkey rfl))]
    exact ⟨rfl, hw, hks⟩
  | dec =>
    simp only [effect, contextDecrypt, decryptBlock_congr (hw (hkey rfl))]
    exact ⟨rfl, hw, hks⟩
  | ofbxor n =>
    obtain rfl := hks (hstream rfl)
    have hencrypt : contextEncrypt { s with w := w, draws := draws } = contextEncrypt s :=
      funext (encryptBlock_congr (hw (hkey rfl)))
    simp only [effect, hencrypt]
    exact ⟨rfl, hw, fun _ => rfl⟩

theorem sameSpecified_performed (i : Instr) : SameSpecified (performed i s) (performed i t) := by
  have hcode := execCode_of_sameSpecified h i
  by_cases hok : execCode i s = .ok
  · obtain ⟨hkey, hstream⟩ := operands_of_ok hok
    rw [performed_of_ok hok, performed_of_ok (hcode.trans hok)]
    exact sameSpecified_effect h i hkey hstream
  · rwa [performed_of_failed hok, performed_of_failed (hcode.trans_ne hok)]

/-- The pending word is the same in both states, and so is what it does. -/
theorem complete_of_sameSpecified :
    ∃ s' t', complete s = .next s' ∧ complete t = .next t' ∧ SameSpecified s' t' := by
  obtain ⟨hpend, -, -⟩ := fields_of_sameSpecified h
  cases hdecode : decode s.pend with
  | cmd i =>
    rw [complete_of_cmd hdecode, complete_of_cmd (hpend ▸ hdecode), exec_eq_finish, exec_eq_finish,
      execCode_of_sameSpecified h]
    exact ⟨_, _, rfl, rfl, sameSpecified_finish (sameSpecified_performed h i) _⟩
  | reject code =>
    rw [complete_of_reject hdecode, complete_of_reject (hpend ▸ hdecode)]
    exact ⟨_, _, rfl, rfl, sameSpecified_finish h code⟩

/-- No register shows the schedule, the keystream block or the count of free draws (R75). -/
theorem busRead_of_sameSpecified (idx : WordIndex) : busRead idx t = busRead idx s := by
  obtain ⟨w, ks, draws, rfl, -, -⟩ := (sameSpecified_iff s t).1 h
  rfl

theorem irq_of_sameSpecified : irq t = irq s := by
  obtain ⟨w, ks, draws, rfl, -, -⟩ := (sameSpecified_iff s t).1 h
  rfl

theorem perform_of_sameSpecified (e : Event) :
    ∃ s' t', perform e s = .next s' ∧ perform e t = .next t' ∧ SameSpecified s' t' := by
  cases e with
  | read idx =>
    exact ⟨_, _, rfl, rfl, busRead_of_sameSpecified h idx ▸ sameSpecified_noteRead h idx _⟩
  | write idx v => exact ⟨_, _, rfl, rfl, sameSpecified_busWrite h idx v⟩
  | reset => exact ⟨_, _, rfl, rfl, sameSpecified_hardReset h⟩
  | complete =>
    obtain ⟨-, hbusy, -⟩ := fields_of_sameSpecified h
    simp only [perform, hbusy]
    split
    · exact complete_of_sameSpecified h
    · exact ⟨_, _, rfl, rfl, h⟩

end

/-- Settles O55: the same event is next in both states, and what it leaves in them is again the same
up to unspecified values, which neither a register nor the interrupt shows. -/
theorem unspecifiedValuesNeverShow : Obligations.UnspecifiedValuesNeverShow := by
  intro s t s' h hstep
  obtain ⟨e, rest, hnext⟩ := exists_next s
  obtain ⟨-, -, hagenda⟩ := fields_of_sameSpecified h
  have hnext' : t.Next e rest := by rwa [State.Next, hagenda]
  obtain ⟨u, t', hs, ht, hsame⟩ := perform_of_sameSpecified (sameSpecified_setAgenda h rest) e
  obtain rfl := Host.Outcome.next.inj (hs.symm.trans ((step_of_next hnext).symm.trans hstep))
  exact ⟨t', (step_of_next hnext').trans ht, hsame, irq_of_sameSpecified hsame,
    busRead_of_sameSpecified hsame⟩

end Sys2Proof.Machine
end

section
/-! The rows of the key expansion (R151, R152, R155). -/

namespace Sys2Proof.Machine

theorem rowAt_append_left (rows more : List Row) {i : Nat} (h : i < rows.length) :
    rowAt (rows ++ more) i = rowAt rows i := by
  rw [rowAt, rowAt, List.getD_append _ _ _ _ h]

/-- Every row that the loop makes comes from two rows of the finished schedule, because the loop
only adds rows behind those it has (R152). -/
theorem rowAt_expandRows (size : KeySize) (count : Nat) (rows : List Row) {r : Nat}
    (hpos : 0 < rows.length) (hlow : rows.length ≤ r) (hhigh : r < rows.length + count) :
    rowAt (expandRows size count rows) r =
      xorWord (rowAt (expandRows size count rows) (r - size.nk))
        (scheduleStep size r (rowAt (expandRows size count rows) (r - 1))) := by
  induction count generalizing rows with
  | zero => omega
  | succ count ih =>
    rw [expandRows_succ]
    obtain rfl | hlater := hlow.eq_or_lt
    · have hnk : 0 < size.nk := by cases size <;> decide
      obtain ⟨more, hprefix⟩ := expandRows_prefix size count (rows ++ [nextRow size rows])
      have hnew :
          rowAt (rows ++ ([nextRow size rows] ++ more)) rows.length = nextRow size rows := by
        simp [rowAt]
      rw [hprefix, List.append_assoc, hnew, rowAt_append_left _ _ (Nat.sub_lt hpos hnk),
        rowAt_append_left _ _ (Nat.sub_lt hpos Nat.one_pos), nextRow]
    · exact ih _ (by simp) (by simpa using hlater) (by simp; omega)

/-- A row of the key expansion from the row `NK` earlier and the row before it (R152). -/
theorem rowAt_keyExpansion (key : List Byte) (size : KeySize) {r : Nat} (hlow : size.nk ≤ r)
    (hhigh : r < size.nw) :
    rowAt (keyExpansion key size) r =
      xorWord (rowAt (keyExpansion key size) (r - size.nk))
        (scheduleStep size r (rowAt (keyExpansion key size) (r - 1))) := by
  have hnk : 0 < size.nk := by cases size <;> decide
  refine rowAt_expandRows size _ _ ?_ ?_ ?_ <;> rw [seedRows_length]
  · exact hnk
  · exact hlow
  · rwa [Nat.add_sub_of_le size.nk_le_nw]

/-- The first `NK` rows are the seed rows (R152). -/
theorem rowAt_keyExpansion_seed (key : List Byte) (size : KeySize) {i : Nat} (hi : i < size.nk) :
    rowAt (keyExpansion key size) i = Vector.ofFn fun j => key.getD (4 * i + j.val) 0 := by
  obtain ⟨more, hprefix⟩ := expandRows_prefix size (size.nw - size.nk) (seedRows key size)
  rw [keyExpansion, hprefix, rowAt_append_left _ _ (by rwa [seedRows_length])]
  simp [rowAt, seedRows, hi]

section WordFunctions

variable (a b t : Row) (c : Byte)

theorem xorWord_eq :
    xorWord a b = #v[a[0] ^^^ b[0], a[1] ^^^ b[1], a[2] ^^^ b[2], a[3] ^^^ b[3]] := by
  apply Vector.ext
  intro j hj
  interval_cases j <;> simp [xorWord]

theorem subWord_eq : subWord t = #v[sbox t[0], sbox t[1], sbox t[2], sbox t[3]] := by
  apply Vector.ext
  intro j hj
  interval_cases j <;> simp [subWord]

/-- The round constant goes into the first byte (R152). -/
theorem addRcon_subWord_rotWord_eq : addRcon c (subWord (rotWord t)) =
    #v[sbox t[1] ^^^ c, sbox t[2], sbox t[3], sbox t[0]] := by
  rw [addRcon, subWord_eq]
  rfl

end WordFunctions

section ScheduleStep

variable {size : KeySize} {r : Nat} (prev : Row)

theorem scheduleStep_rcon (h : r % size.nk = 0) :
    scheduleStep size r prev = addRcon (rcon (r / size.nk)) (subWord (rotWord prev)) :=
  if_pos h

theorem scheduleStep_sub (h : r % size.nk ≠ 0) (hsub : 6 < size.nk ∧ r % size.nk = 4) :
    scheduleStep size r prev = subWord prev := by
  rw [scheduleStep, if_neg h, if_pos hsub]

theorem scheduleStep_plain (h : r % size.nk ≠ 0) (hsub : ¬(6 < size.nk ∧ r % size.nk = 4)) :
    scheduleStep size r prev = prev := by
  rw [scheduleStep, if_neg h, if_neg hsub]

/-- A substitution without a round constant is only in an AES-256 schedule (R152). -/
theorem six_lt_nk_iff (size : KeySize) (r : Nat) :
    (6 < size.nk ∧ r % size.nk = 4) ↔ (size = .k256 ∧ r % 8 = 4) := by
  cases size <;> simp

end ScheduleStep

/-- Settles O32: the loop's row written out byte by byte, for each of the three kinds of row. -/
theorem keyExpansionRows : Obligations.KeyExpansionRows := by
  refine ⟨?rows, rfl, rfl, rfl, fun t => ?commute⟩
  case commute => rw [subWord_eq, subWord_eq]; rfl
  rintro size key W rfl
  refine ⟨keyExpansion_length key size, fun i j hi hj => ?_, fun r hlow hhigh => ?_⟩
  · rw [rowAt_keyExpansion_seed key size hi]
    simp [hj]
  · rw [rowAt_keyExpansion key size hlow hhigh]
    intro p e
    split_ifs with hmod hsub
    · rw [scheduleStep_rcon _ hmod, addRcon_subWord_rotWord_eq, xorWord_eq]; rfl
    · rw [scheduleStep_sub _ hmod ((six_lt_nk_iff size r).2 hsub), subWord_eq, xorWord_eq]; rfl
    · rw [scheduleStep_plain _ hmod (mt (six_lt_nk_iff size r).1 hsub), xorWord_eq]

/-- Settles O33: the rows with a round constant are the multiples of `NK`, and their quotients by
`NK` lie between 1 and `(NW - 1) / NK`. -/
theorem roundConstantIndexInTable : Obligations.RoundConstantIndexInTable := by
  intro size last
  have hlast : last = (size.nw - 1) / size.nk := by cases size <;> rfl
  have hnk : 0 < size.nk := by cases size <;> decide
  have hnw := size.nk_le_nw
  refine ⟨fun r hlow hhigh => ⟨fun hr => ⟨_, rfl, ?_, ?_, fun prev => scheduleStep_rcon prev hr⟩,
    fun hr => ?_, fun key => rowAt_keyExpansion key size hlow hhigh⟩, fun i hi hle => ?_⟩
  · exact (Nat.one_le_div_iff hnk).2 hlow
  · rw [hlast]
    exact Nat.div_le_div_right (by omega)
  · by_cases hsub : 6 < size.nk ∧ r % size.nk = 4
    · exact .inr fun prev => scheduleStep_sub prev hr hsub
    · exact .inl fun prev => scheduleStep_plain prev hr hsub
  · rw [hlast, Nat.le_div_iff_mul_le hnk] at hle
    have hfirst : size.nk ≤ i * size.nk := Nat.le_mul_of_pos_left _ hi
    exact ⟨i * size.nk, hfirst, by omega, Nat.mul_mod_left i _, Nat.mul_div_cancel i hnk⟩

end Sys2Proof.Machine
end

section
/-! `KEYINIT`: the key bytes it reads and the context it leaves (R72, R153). -/

namespace Sys2Proof.Machine

/-- Byte `j` of word `k` is byte `4k + j` of a list of words written out byte by byte (R72). -/
theorem flatMap_wordByte_getElem? (words : List Word) {k j : Nat} (hj : j < 4) :
    (words.flatMap fun v => [wordByte v 0, wordByte v 1, wordByte v 2, wordByte v 3])[4 * k + j]? =
      words[k]?.map fun v => wordByte v j := by
  induction words generalizing k with
  | nil => simp
  | cons v words ih =>
    cases k with
    | zero => interval_cases j <;> simp
    | succ k =>
      have hindex : 4 * (k + 1) + j = 4 * k + j + 4 := by ring
      simp [hindex, ih]

theorem keyBytes_length (size : KeySize) (key : Vector Word 8) :
    (keyBytes size key).length = 4 * size.nk := by
  have hlength (words : List Word) :
      (words.flatMap fun v => [wordByte v 0, wordByte v 1, wordByte v 2, wordByte v 3]).length =
        4 * words.length := by
    simp [List.length_flatMap, Nat.mul_comm]
  have hnk : size.nk ≤ 8 := by cases size <;> decide
  rw [keyBytes, hlength, List.length_take, Vector.length_toList, Nat.min_eq_left hnk]

theorem keyBytes_getElem? (size : KeySize) (key : Vector Word 8) (k : Fin 8) (j : Fin 4)
    (hk : k.val < size.nk) :
    (keyBytes size key)[4 * k.val + j.val]? = some (wordByte key[k] j.val) := by
  rw [keyBytes, flatMap_wordByte_getElem? _ j.isLt]
  simp [hk]

/-- A byte of a word as a quotient (R71). -/
theorem wordByte_eq_ofNat (v : Word) (j : Nat) :
    wordByte v j = BitVec.ofNat 8 (v.toNat / 2 ^ (24 - 8 * j)) := by
  apply BitVec.eq_of_toNat_eq
  rw [wordByte_toNat, BitVec.toNat_ofNat]

/-- Settles O34: the storage holds the key expansion of the key bytes, and the rest of the frame is
by definition. -/
theorem keyinitBuildsTheContext : Obligations.KeyinitBuildsTheContext := by
  intro size s
  refine ⟨_, rfl, fillSchedule_keyExpansion_getElem? _ size _, keyBytes_length size s.key,
    fun k j hk => ?_, rfl⟩
  rw [keyBytes_getElem? size s.key k j hk, wordByte_eq_ofNat]

end Sys2Proof.Machine
end

section
/-! The field multiplication is the product of a commutative ring of bytes (R180, R181). -/

namespace Sys2Proof.Machine

theorem xtime_zero : xtime 0#8 = 0#8 := by decide

theorem xtime_xor (a b : Byte) : xtime (a ^^^ b) = xtime a ^^^ xtime b := by
  have hreduce (p q : Bool) : (if p ^^ q then 0x1b else 0 : Byte) =
      (if p then 0x1b else 0) ^^^ (if q then 0x1b else 0) := by
    revert p q
    decide
  rw [xtime, xtime, xtime, BitVec.getLsbD_xor, BitVec.shiftLeft_xor_distrib, hreduce]
  ac_rfl

theorem xtimeIter_xor (i : Nat) (a b : Byte) :
    xtimeIter i (a ^^^ b) = xtimeIter i a ^^^ xtimeIter i b := by
  induction i with
  | zero => rfl
  | succ i ih => rw [xtimeIter, ih, xtime_xor]; rfl

theorem xtimeIter_xtime (i : Nat) (a : Byte) : xtimeIter i (xtime a) = xtime (xtimeIter i a) := by
  induction i with
  | zero => rfl
  | succ i ih => rw [xtimeIter, ih, xtimeIter]

/-- The summand of `gmul` for bit `i` of the second factor (R181). -/
def gmulTerm (a b : Byte) (i : Nat) : Byte := if b.getLsbD i then xtimeIter i a else 0#8

/-- The XOR of the bytes `f i` over a list of indexes. -/
def xorSum (f : Nat → Byte) (l : List Nat) : Byte := l.foldr (fun i acc => f i ^^^ acc) 0#8

@[simp] theorem xorSum_nil (f : Nat → Byte) : xorSum f [] = 0#8 := by
  simp [xorSum]

@[simp] theorem xorSum_cons (f : Nat → Byte) (i : Nat) (l : List Nat) :
    xorSum f (i :: l) = f i ^^^ xorSum f l := by
  simp [xorSum]

theorem gmul_eq_xorSum (a b : Byte) : gmul a b = xorSum (gmulTerm a b) (List.range 8) := by
  have hfold (l : List Nat) (acc : Byte) :
      l.foldl (fun acc i => if b.getLsbD i then acc ^^^ xtimeIter i a else acc) acc =
        acc ^^^ xorSum (gmulTerm a b) l := by
    induction l generalizing acc with
    | nil => simp
    | cons i l ih =>
      rw [List.foldl_cons, ih]
      cases hbit : b.getLsbD i <;> simp [gmulTerm, hbit, BitVec.xor_assoc]
  rw [gmul, hfold]
  exact BitVec.zero_xor

theorem xorSum_xor (f g : Nat → Byte) (l : List Nat) :
    xorSum (fun i => f i ^^^ g i) l = xorSum f l ^^^ xorSum g l := by
  induction l with
  | nil => simp
  | cons i l ih =>
    rw [xorSum_cons, xorSum_cons, xorSum_cons, ih]
    ac_rfl

/-- `xtime` of a sum, term by term. -/
theorem xtime_xorSum (f : Nat → Byte) (l : List Nat) :
    xtime (xorSum f l) = xorSum (fun i => xtime (f i)) l := by
  induction l with
  | nil => simp [xtime_zero]
  | cons i l ih => rw [xorSum_cons, xorSum_cons, xtime_xor, ih]

theorem gmul_xor_left (a b c : Byte) : gmul (a ^^^ b) c = gmul a c ^^^ gmul b c := by
  have hterm : gmulTerm (a ^^^ b) c = fun i => gmulTerm a c i ^^^ gmulTerm b c i := by
    funext i
    cases hbit : c.getLsbD i <;> simp [gmulTerm, hbit, xtimeIter_xor]
  rw [gmul_eq_xorSum, gmul_eq_xorSum, gmul_eq_xorSum, hterm, xorSum_xor]

theorem gmul_xor_right (a b c : Byte) : gmul a (b ^^^ c) = gmul a b ^^^ gmul a c := by
  have hterm : gmulTerm a (b ^^^ c) = fun i => gmulTerm a b i ^^^ gmulTerm a c i := by
    funext i
    cases hb : b.getLsbD i <;> cases hc : c.getLsbD i <;> simp [gmulTerm, hb, hc]
  rw [gmul_eq_xorSum, gmul_eq_xorSum, gmul_eq_xorSum, hterm, xorSum_xor]

theorem gmul_xtime_left (a b : Byte) : gmul (xtime a) b = xtime (gmul a b) := by
  have hterm : gmulTerm (xtime a) b = fun i => xtime (gmulTerm a b i) := by
    funext i
    cases hbit : b.getLsbD i <;> simp [gmulTerm, hbit, xtimeIter_xtime, xtime_zero]
  rw [gmul_eq_xorSum, gmul_eq_xorSum, hterm, xtime_xorSum]

theorem gmul_xtimeIter_left (i : Nat) (a b : Byte) :
    gmul (xtimeIter i a) b = xtimeIter i (gmul a b) := by
  induction i with
  | zero => rfl
  | succ i ih => rw [xtimeIter, gmul_xtime_left, ih, xtimeIter]

@[simp] theorem gmul_zero (a : Byte) : gmul a 0#8 = 0#8 := by
  simpa using gmul_xor_right a 0 0

@[simp] theorem zero_gmul (a : Byte) : gmul 0#8 a = 0#8 := by
  simpa using gmul_xor_left 0 0 a

/-- A byte is the sum of the powers of `x` at its set bits. -/
@[simp] theorem one_gmul : ∀ a : Byte, gmul 1#8 a = a := by decide +kernel

/-- The powers `x^0` to `x^7` are the bytes with one bit set. -/
theorem gmul_xtimeIter_one (a : Byte) :
    ∀ i < 8, gmul a (xtimeIter i 1#8) = xtimeIter i a := by
  intro i hi
  interval_cases i <;> exact BitVec.zero_xor

/-- What holds of 0, of the powers of `x` and of sums holds of every byte. -/
theorem byte_induction {P : Byte → Prop} (zero : P 0#8) (xor : ∀ a b, P a → P b → P (a ^^^ b))
    (power : ∀ i < 8, P (xtimeIter i 1#8)) (a : Byte) : P a := by
  have hterm (i : Nat) (hi : i ∈ List.range 8) : P (gmulTerm 1#8 a i) := by
    unfold gmulTerm
    split
    · exact power i (List.mem_range.1 hi)
    · exact zero
  have hsum (l : List Nat) (h : ∀ i ∈ l, P (gmulTerm 1#8 a i)) : P (xorSum (gmulTerm 1#8 a) l) := by
    induction l with
    | nil => exact zero
    | cons i l ih =>
      exact xor _ _ (h i List.mem_cons_self) (ih fun j hj => h j (List.mem_cons_of_mem i hj))
  rw [← one_gmul a, gmul_eq_xorSum]
  exact hsum _ hterm

theorem gmul_comm (a b : Byte) : gmul a b = gmul b a := by
  induction a using byte_induction with
  | zero => rw [zero_gmul, gmul_zero]
  | xor a a' ha ha' => rw [gmul_xor_left, gmul_xor_right, ha, ha']
  | power i hi => rw [gmul_xtimeIter_left, one_gmul, gmul_xtimeIter_one b i hi]

theorem gmul_assoc (a b c : Byte) : gmul (gmul a b) c = gmul a (gmul b c) := by
  induction a using byte_induction with
  | zero => rw [zero_gmul, zero_gmul, zero_gmul]
  | xor a a' ha ha' => simp only [gmul_xor_left, ha, ha']
  | power i => simp only [gmul_xtimeIter_left, one_gmul]

@[simp] theorem gmul_one (a : Byte) : gmul a 1#8 = a := by rw [gmul_comm, one_gmul]

/-- Settles O24: the laws from the sum over the bits, by induction over sums of powers of `x`. -/
theorem fieldMultiplicationLaws : Obligations.FieldMultiplicationLaws := fun a b c =>
  ⟨gmul_xor_left a b c, gmul_xor_right a b c, gmul_comm a b, gmul_assoc a b c, gmul_one a,
    gmul_xtimeIter_one a 1 (by decide)⟩

end Sys2Proof.Machine
end

section
/-! The tables against the field, and each transform against its inverse (R150, R182 to R192). -/

namespace Sys2Proof.Machine

/-- The printed tables against the field products, entry by entry (R182). -/
theorem multTables_eq_gmul : ∀ x : Byte, mult2 x = gmul x 0x02 ∧ mult3 x = gmul x 0x03 ∧
    mult9 x = gmul x 0x09 ∧ multB x = gmul x 0x0b ∧ multD x = gmul x 0x0d ∧
    multE x = gmul x 0x0e := by
  decide +kernel

/-- Settles O25: a check of the printed entries. -/
theorem tablesAreFieldProducts : Obligations.TablesAreFieldProducts := by
  refine ⟨multTables_eq_gmul, fun i hlow hhigh => ?_⟩
  interval_cases i <;> rfl

/-- The affine map of R183. -/
def sboxAffine (b : Byte) : Byte :=
  b ^^^ b.rotateLeft 1 ^^^ b.rotateLeft 2 ^^^ b.rotateLeft 3 ^^^ b.rotateLeft 4 ^^^ 0x63

/-- The field inverse read off `SBOX` by the inverse of the affine map. -/
def sboxInverse (x : Byte) : Byte :=
  (sbox x).rotateLeft 1 ^^^ (sbox x).rotateLeft 3 ^^^ (sbox x).rotateLeft 6 ^^^ 0x05

theorem gmul_sboxInverse : ∀ x : Byte, x ≠ 0 → gmul x (sboxInverse x) = 1 := by decide +kernel

theorem sbox_eq_affine : ∀ x : Byte, sbox x = sboxAffine (sboxInverse x) := by decide +kernel

theorem invSbox_sbox : ∀ x : Byte, invSbox (sbox x) = x := by decide +kernel

theorem sbox_invSbox : ∀ x : Byte, sbox (invSbox x) = x := by decide +kernel

/-- A byte has at most one inverse. -/
theorem eq_of_gmul_eq_one {x y z : Byte} (hy : gmul x y = 1#8) (hz : gmul x z = 1#8) : y = z :=
  calc y = gmul (gmul x z) y := by rw [hz, one_gmul]
    _ = gmul z (gmul x y) := by rw [gmul_comm x z, gmul_assoc]
    _ = z := by rw [hy, gmul_one]

/-- Settles O26: `SBOX` is the affine map of an inverse, and there is no other inverse. -/
theorem sboxIsAffineOfInverse : Obligations.SboxIsAffineOfInverse := by
  refine ⟨fun x hx => ⟨_, gmul_sboxInverse x hx⟩, fun x y hxy => ?_, by decide,
    fun x => ⟨invSbox_sbox x, sbox_invSbox x⟩⟩
  have hx : x ≠ 0 := by
    rintro rfl
    simp at hxy
  rw [eq_of_gmul_eq_one hxy (gmul_sboxInverse x hx)]
  exact sbox_eq_affine x

/-! ### Matrix products over the field -/

/-- The product of a row of four bytes with a column of four coefficients. -/
def fieldDot (a m : Fin 4 → Byte) : Byte :=
  gmul (a 0) (m 0) ^^^ gmul (a 1) (m 1) ^^^ gmul (a 2) (m 2) ^^^ gmul (a 3) (m 3)

/-- Two matrix products one after the other are one product. -/
theorem fieldDot_fieldDot (a c : Fin 4 → Byte) (m : Fin 4 → Fin 4 → Byte) :
    fieldDot (fun k => fieldDot a (m k)) c = fieldDot a fun l => fieldDot (fun k => m k l) c := by
  simp only [fieldDot, gmul_xor_left, gmul_xor_right, gmul_assoc]
  ac_rfl

/-- The product with a row of the unit matrix. -/
theorem fieldDot_unit (a : Fin 4 → Byte) (row : Fin 4) :
    fieldDot a (fun k => if k = row then 1 else 0) = a row := by
  fin_cases row <;> simp [fieldDot]

/-- Row `row` of the circulant matrix with first row `m` (R189, R192). -/
def circulant (m : Vector Byte 4) (row k : Fin 4) : Byte := m[k - row]

/-- The first row of the matrix of `MixColumns` (R189). -/
def mixRow : Vector Byte 4 := #v[0x02, 0x03, 0x01, 0x01]

/-- The first row of the matrix of `InvMixColumns` (R192). -/
def invMixRow : Vector Byte 4 := #v[0x0e, 0x0b, 0x0d, 0x09]

/-- The matrix of `MixColumns` (R189). -/
theorem circulant_mixRow : circulant mixRow =
    ![![0x02, 0x03, 0x01, 0x01], ![0x01, 0x02, 0x03, 0x01], ![0x01, 0x01, 0x02, 0x03],
      ![0x03, 0x01, 0x01, 0x02]] := by
  decide

/-- The matrix of `InvMixColumns` (R192). -/
theorem circulant_invMixRow : circulant invMixRow =
    ![![0x0e, 0x0b, 0x0d, 0x09], ![0x09, 0x0e, 0x0b, 0x0d], ![0x0d, 0x09, 0x0e, 0x0b],
      ![0x0b, 0x0d, 0x09, 0x0e]] := by
  decide

theorem entry_mixColumns_eq_fieldDot (S : Matrix) (row col : Fin 4) :
    entry (mixColumns S) row col = fieldDot (fun k => entry S k col) (circulant mixRow row) := by
  have h (x : Byte) := multTables_eq_gmul x
  rw [entry_mixColumns]
  fin_cases row <;> simp [mixColumn, fieldDot, circulant_mixRow, h]

theorem entry_invMixColumns_eq_fieldDot (S : Matrix) (row col : Fin 4) :
    entry (invMixColumns S) row col =
      fieldDot (fun k => entry S k col) (circulant invMixRow row) := by
  have h (x : Byte) := multTables_eq_gmul x
  rw [entry_invMixColumns]
  fin_cases row <;> simp [invMixColumn, fieldDot, circulant_invMixRow, h]

/-- Settles O27: the rows of the two matrices as field products. -/
theorem mixColumnsIsAMatrixProduct : Obligations.MixColumnsIsAMatrixProduct := fun S row col =>
  ⟨entry_mixColumns_eq_fieldDot S row col, entry_invMixColumns_eq_fieldDot S row col⟩

/-- The two matrices are each other's inverses, entry by entry. -/
theorem circulant_inverse : ∀ row l : Fin 4,
    fieldDot (fun k => circulant mixRow k l) (circulant invMixRow row) =
      (if l = row then 1 else 0) ∧
    fieldDot (fun k => circulant invMixRow k l) (circulant mixRow row) =
      if l = row then 1 else 0 := by
  decide

theorem invMixColumns_mixColumns (S : Matrix) : invMixColumns (mixColumns S) = S := by
  apply matrix_ext
  intro row col
  have hunit (l : Fin 4) := (circulant_inverse row l).1
  simp only [entry_invMixColumns_eq_fieldDot, entry_mixColumns_eq_fieldDot, fieldDot_fieldDot,
    hunit, fieldDot_unit]

theorem mixColumns_invMixColumns (S : Matrix) : mixColumns (invMixColumns S) = S := by
  apply matrix_ext
  intro row col
  have hunit (l : Fin 4) := (circulant_inverse row l).2
  simp only [entry_invMixColumns_eq_fieldDot, entry_mixColumns_eq_fieldDot, fieldDot_fieldDot,
    hunit, fieldDot_unit]

theorem invSubBytes_subBytes (S : Matrix) : invSubBytes (subBytes S) = S :=
  matrix_ext fun row col => by simp [invSbox_sbox]

theorem subBytes_invSubBytes (S : Matrix) : subBytes (invSubBytes S) = S :=
  matrix_ext fun row col => by simp [sbox_invSbox]

theorem invShiftRows_shiftRows (S : Matrix) : invShiftRows (shiftRows S) = S :=
  matrix_ext fun row col => by simp

theorem shiftRows_invShiftRows (S : Matrix) : shiftRows (invShiftRows S) = S :=
  matrix_ext fun row col => by simp

theorem addRoundKey_addRoundKey (w : Schedule) (n : Nat) (S : Matrix) :
    addRoundKey w n (addRoundKey w n S) = S :=
  matrix_ext fun row col => by simp

/-- Settles O28: entry by entry, the two matrices of `MixColumns` by their product. -/
theorem transformsAreUndone : Obligations.TransformsAreUndone := fun S =>
  ⟨invSubBytes_subBytes S, subBytes_invSubBytes S, invShiftRows_shiftRows S,
    shiftRows_invShiftRows S, invMixColumns_mixColumns S, mixColumns_invMixColumns S,
    fun w n => addRoundKey_addRoundKey w n S⟩

end Sys2Proof.Machine
end

section
/-! The block functions by their rounds, and each against the other (R193 to R195). -/

namespace Sys2Proof.Machine

/-- The block's byte at a row and a column, the column first (R73). -/
theorem entry_loadBlock_col (b : Block) (row col : Fin 4) :
    entry (loadBlock b) row col = b[4 * col.val + row.val] := by
  simp [Nat.mul_comm]

theorem storeBlock_getElem_col (S : Matrix) (row col : Fin 4) :
    (storeBlock S)[4 * col.val + row.val]'(by omega) = entry S row col := by
  simpa [Nat.mul_comm] using storeBlock_getElem_entry S row col

theorem getElem_eq_entry (S : Matrix) (row col : Fin 4) : S[row][col] = entry S row col := rfl

/-- A row of the schedule within the storage. -/
theorem scheduleRow_eq (w : Schedule) (i : Nat) (hi : i < 60) : scheduleRow w i = w[i] := by
  simp [scheduleRow, hi]

/-- A row of a circulant product, its summands counted from the row on. -/
theorem fieldDot_circulant (a : Fin 4 → Byte) (m : Vector Byte 4) (row : Fin 4) :
    fieldDot a (circulant m row) = gmul (a row) m[0] ^^^ gmul (a (row + 1)) m[1] ^^^
      gmul (a (row + 2)) m[2] ^^^ gmul (a (row + 3)) m[3] := by
  obtain rfl | rfl | rfl | rfl : row = 0 ∨ row = 1 ∨ row = 2 ∨ row = 3 := by omega
  · simp [fieldDot, circulant]
  all_goals
    simp [fieldDot, circulant]
    ac_rfl

/-- The matrix after round `r` of `EncryptBlock` (R193). -/
def encryptState (w : Schedule) (b : Block) (r : Nat) : Matrix :=
  (List.range' 1 r).foldl (encryptRound w) (addRoundKey w 0 (loadBlock b))

theorem encryptBlock_eq_store (w : Schedule) (nr : Nat) (b : Block) : encryptBlock w nr b =
    storeBlock (addRoundKey w nr (shiftRows (subBytes (encryptState w b (nr - 1))))) := rfl

theorem encryptState_succ (w : Schedule) (b : Block) (r : Nat) :
    encryptState w b (r + 1) = encryptRound w (encryptState w b r) (r + 1) := by
  rw [encryptState, List.range'_1_concat, List.foldl_concat, Nat.add_comm 1 r]
  rfl

/-- An entry of a round of `EncryptBlock`, the coefficients counted from the row on (R189, R193). -/
theorem entry_encryptRound (w : Schedule) (S : Matrix) (round : Nat) (row col : Fin 4) :
    let a := fun k : Fin 4 => sbox (entry S k (col + k))
    entry (encryptRound w S round) row col = gmul (a row) 0x02 ^^^ gmul (a (row + 1)) 0x03 ^^^
      a (row + 2) ^^^ a (row + 3) ^^^ (scheduleRow w (4 * round + col.val))[row] := by
  intro a
  have hcolumn : entry (mixColumns (shiftRows (subBytes S))) row col =
      gmul (a row) 0x02 ^^^ gmul (a (row + 1)) 0x03 ^^^ a (row + 2) ^^^ a (row + 3) := by
    rw [entry_mixColumns_eq_fieldDot, fieldDot_circulant]
    simp [mixRow, a]
  rw [encryptRound, entry_addRoundKey, hcolumn]

/-- Settles O29: the matrices after the rounds, each from the one before. -/
theorem encryptBlockByRounds : Obligations.EncryptBlockByRounds := by
  intro w nr b hpos hmax
  refine ⟨encryptState w b, fun row col => ?first, fun r hr row col => ?round, fun row col => ?last⟩
  case first =>
    rw [getElem_eq_entry, encryptState, List.range'_zero, List.foldl_nil, entry_addRoundKey,
      entry_loadBlock_col, scheduleRow_eq w _ (by omega)]
    simp
  case round =>
    rw [getElem_eq_entry, encryptState_succ, entry_encryptRound, scheduleRow_eq w _ (by omega)]
    rfl
  case last =>
    rw [getElem_eq_entry, encryptBlock_eq_store, storeBlock_getElem_col, entry_addRoundKey,
      entry_shiftRows, entry_subBytes, scheduleRow_eq w _ (by omega)]

/-- The matrix from which round `r` of `DecryptBlock` starts, the rounds going down from `nr`
(R194). -/
def decryptState (w : Schedule) (nr : Nat) (b : Block) (r : Nat) : Matrix :=
  (List.range' (r + 1) (nr - 1 - r)).reverse.foldl (decryptRound w)
    (invSubBytes (invShiftRows (addRoundKey w nr (loadBlock b))))

theorem decryptBlock_eq_store (w : Schedule) (nr : Nat) (b : Block) :
    decryptBlock w nr b = storeBlock (addRoundKey w 0 (decryptState w nr b 0)) := rfl

theorem decryptState_first (w : Schedule) (nr : Nat) (b : Block) :
    decryptState w nr b (nr - 1) = invSubBytes (invShiftRows (addRoundKey w nr (loadBlock b))) := by
  simp [decryptState]

theorem decryptState_pred (w : Schedule) {nr r : Nat} (b : Block) (hr : r + 1 < nr) :
    decryptState w nr b r = decryptRound w (decryptState w nr b (r + 1)) (r + 1) := by
  have hcount : nr - 1 - r = nr - 1 - (r + 1) + 1 := by omega
  rw [decryptState, hcount, List.range'_succ, List.reverse_cons, List.foldl_concat]
  rfl

/-- An entry of a round of `DecryptBlock`, the coefficients counted from the row on (R192, R194). -/
theorem entry_decryptRound (w : Schedule) (S : Matrix) (round : Nat) (row col : Fin 4) :
    let a := fun k : Fin 4 => entry S k col ^^^ (scheduleRow w (4 * round + col.val))[k]
    entry (decryptRound w S round) row (col + row) = invSbox (gmul (a row) 0x0e ^^^
      gmul (a (row + 1)) 0x0b ^^^ gmul (a (row + 2)) 0x0d ^^^ gmul (a (row + 3)) 0x09) := by
  intro a
  have hcolumn : entry (invMixColumns (addRoundKey w round S)) row col =
      gmul (a row) 0x0e ^^^ gmul (a (row + 1)) 0x0b ^^^ gmul (a (row + 2)) 0x0d ^^^
        gmul (a (row + 3)) 0x09 := by
    rw [entry_invMixColumns_eq_fieldDot, fieldDot_circulant]
    simp [invMixRow, a]
  rw [decryptRound, entry_invSubBytes, entry_invShiftRows, add_sub_cancel_right, hcolumn]

/-- Settles O30: the matrices from which the rounds start, each from the one of the round above. -/
theorem decryptBlockByRounds : Obligations.DecryptBlockByRounds := by
  intro w nr b hpos hmax
  refine ⟨decryptState w nr b, fun row col => ?first, fun r hr row col => ?round,
    fun row col => ?last⟩
  case first =>
    rw [getElem_eq_entry, decryptState_first, entry_invSubBytes, entry_invShiftRows,
      add_sub_cancel_right, entry_addRoundKey, entry_loadBlock_col, scheduleRow_eq w _ (by omega)]
  case round =>
    rw [getElem_eq_entry, decryptState_pred w b hr, entry_decryptRound,
      scheduleRow_eq w _ (by omega)]
    rfl
  case last =>
    rw [getElem_eq_entry, decryptBlock_eq_store, storeBlock_getElem_col, entry_addRoundKey,
      scheduleRow_eq w _ (by omega)]
    simp

/-! ### Decryption against encryption -/

theorem decryptRound_encryptRound (w : Schedule) (S : Matrix) (round : Nat) :
    decryptRound w (encryptRound w S round) round = S := by
  rw [decryptRound, encryptRound, addRoundKey_addRoundKey, invMixColumns_mixColumns,
    invShiftRows_shiftRows, invSubBytes_subBytes]

theorem encryptRound_decryptRound (w : Schedule) (S : Matrix) (round : Nat) :
    encryptRound w (decryptRound w S round) round = S := by
  rw [decryptRound, encryptRound, subBytes_invSubBytes, shiftRows_invShiftRows,
    mixColumns_invMixColumns, addRoundKey_addRoundKey]

/-- Rounds are undone from the last one to the first. -/
theorem foldl_reverse_undo {f g : Matrix → Nat → Matrix} (h : ∀ S round, g (f S round) round = S)
    (rounds : List Nat) (S : Matrix) : rounds.reverse.foldl g (rounds.foldl f S) = S := by
  induction rounds generalizing S with
  | nil => rfl
  | cons round rounds ih => rw [List.foldl_cons, List.reverse_cons, List.foldl_concat, ih, h]

theorem decryptBlock_encryptBlock (w : Schedule) (nr : Nat) (b : Block) :
    decryptBlock w nr (encryptBlock w nr b) = b := by
  simp only [decryptBlock, encryptBlock, loadBlock_storeBlock, addRoundKey_addRoundKey,
    invShiftRows_shiftRows, invSubBytes_subBytes,
    foldl_reverse_undo (decryptRound_encryptRound w), storeBlock_loadBlock]

theorem encryptBlock_decryptBlock (w : Schedule) (nr : Nat) (b : Block) :
    encryptBlock w nr (decryptBlock w nr b) = b := by
  have hundo (S : Matrix) := foldl_reverse_undo (encryptRound_decryptRound w)
    (List.range' 1 (nr - 1)).reverse S
  rw [List.reverse_reverse] at hundo
  simp only [decryptBlock, encryptBlock, loadBlock_storeBlock, addRoundKey_addRoundKey, hundo,
    subBytes_invSubBytes, shiftRows_invShiftRows, storeBlock_loadBlock]

/-- Settles O31: each round undoes its round, from the last one to the first. -/
theorem decryptionUndoesEncryption : Obligations.DecryptionUndoesEncryption := fun w nr b =>
  ⟨decryptBlock_encryptBlock w nr b, encryptBlock_decryptBlock w nr b⟩

end Sys2Proof.Machine
end

section
/-! `ENC` and `DEC` (R196, R197), and what a command reads (R36, R37, R39). -/

namespace Sys2Proof.Machine

theorem exec_enc {s : State} (hvalid : s.ctxValid = true) :
    exec .enc s = .next (finish .ok (setDout (contextEncrypt s (blockOf s.din)) s)) := by
  have hcode : execCode .enc s = .ok := by simp [hvalid]
  rw [exec_eq_finish, performed_of_ok hcode, hcode, effect]

theorem exec_dec {s : State} (hvalid : s.ctxValid = true) :
    exec .dec s = .next (finish .ok (setDout (contextDecrypt s (blockOf s.din)) s)) := by
  have hcode : execCode .dec s = .ok := by simp [hvalid]
  rw [exec_eq_finish, performed_of_ok hcode, hcode, effect]

/-- Settles O37: the block written to `DOUT` is the one read back from it. -/
theorem encWritesTheEncryptedBlock : Obligations.EncWritesTheEncryptedBlock := fun _ hvalid =>
  ⟨_, exec_enc hvalid, blockOf_wordsOf _, rfl⟩

/-- Settles O38: the block written to `DOUT` is the one read back from it. -/
theorem decWritesTheDecryptedBlock : Obligations.DecWritesTheDecryptedBlock := fun _ hvalid =>
  ⟨_, exec_dec hvalid, blockOf_wordsOf _, rfl⟩

/-- Settles O40: the second command finds the first one's block and the same context, and undoes it
(R195). -/
theorem engineBlockSymmetry : Obligations.EngineBlockSymmetry := by
  intro s hvalid
  refine ⟨⟨_, _, exec_enc hvalid, exec_dec hvalid, ?_⟩,
    ⟨_, _, exec_dec hvalid, exec_enc hvalid, ?_⟩⟩
  · show wordsOf (decryptBlock s.w s.ctxKsz.nr
      (blockOf (wordsOf (encryptBlock s.w s.ctxKsz.nr (blockOf s.din))))) = s.din
    rw [blockOf_wordsOf, decryptBlock_encryptBlock, wordsOf_blockOf]
  · show wordsOf (encryptBlock s.w s.ctxKsz.nr
      (blockOf (wordsOf (decryptBlock s.w s.ctxKsz.nr (blockOf s.din))))) = s.din
    rw [blockOf_wordsOf, encryptBlock_decryptBlock, wordsOf_blockOf]

/-- The key bytes are those of the first `NK` key registers (R72). -/
theorem keyBytes_congr {size : KeySize} {key key' : Vector Word 8}
    (h : ∀ k : Fin 8, k.val < size.nk → key'[k] = key[k]) :
    keyBytes size key' = keyBytes size key := by
  have htake : key'.toList.take size.nk = key.toList.take size.nk := by
    apply List.ext_getElem
    · simp
    · intro k hk hk'
      simp only [List.length_take, Vector.length_toList, Nat.lt_min] at hk
      simpa using h ⟨k, hk.2⟩ hk.1
  rw [keyBytes, keyBytes, htake]

/-- The registers that a command reads hold the same values in the state and in the given ones. -/
def OperandsAgree (key : Vector Word 8) (din iv : Vector Word 4) (s : State) : Instr → Prop
  | .keyinit size => ∀ k : Fin 8, k.val < size.nk → key[k] = s.key[k]
  | .enc => din = s.din
  | .dec => din = s.din
  | .ofbinit => iv = s.iv
  | .ofbxor _ => din = s.din
  | .nop => True

theorem effect_of_operandsAgree {key : Vector Word 8} {din iv : Vector Word 4} {s : State}
    {i : Instr} (h : OperandsAgree key din iv s i) :
    effect i { s with key := key, din := din, iv := iv } =
      { effect i s with key := key, din := din, iv := iv } := by
  cases i with
  | nop => rfl
  | keyinit size => simp only [effect, keyBytes_congr h]; rfl
  | enc | dec | ofbxor n => obtain rfl : din = s.din := h; rfl
  | ofbinit => obtain rfl : iv = s.iv := h; rfl

/-- Settles O35: neither the code nor the effect depends on a register that the command does not
read. -/
theorem commandsReadOnlyTheirOperands : Obligations.CommandsReadOnlyTheirOperands := by
  intro s t key din iv i hexec hagree
  have hoperands : OperandsAgree key din iv s i := by cases i <;> exact hagree
  have hcode : execCode i { s with key := key, din := din, iv := iv } = execCode i s := rfl
  obtain rfl := Host.Outcome.next.inj ((exec_eq_finish i s).symm.trans hexec)
  rw [exec_eq_finish, hcode]
  by_cases hok : execCode i s = .ok
  · rw [performed_of_ok (hcode.trans hok), performed_of_ok hok, effect_of_operandsAgree hoperands]
    rfl
  · rw [performed_of_failed (hcode.trans_ne hok), performed_of_failed hok]
    rfl

end Sys2Proof.Machine
end

section
/-! The byte loop of `OFBXOR` in closed form: which keystream block each byte takes (R242, R247),
and the source's OFB function (R240). -/

namespace Sys2Proof.Machine

/-- How many times the keystream block is regenerated before byte `j` of a message is XORed, from
position `p` on: once where the stream is at position 0, and once at each position 0 after that. -/
def regenerations (p j : Nat) : Nat := (if p = 0 then 1 else 0) + (p + j) / 16

/-- One byte on, the regeneration at position 0 is behind. -/
theorem regenerations_succ {p : Nat} (j : Nat) (hp : p < 16) :
    regenerations p (j + 1) = regenerations ((p + 1) % 16) j + if p = 0 then 1 else 0 := by
  unfold regenerations
  obtain hlast | hlast : p = 15 ∨ p < 15 := by omega
  · subst hlast
    simp
    omega
  · rw [Nat.mod_eq_of_lt (by omega)]
    have hnext : ¬p + 1 = 0 := by omega
    rw [if_neg hnext, Nat.add_right_comm, Nat.add_assoc p, Nat.add_comm 1 j, Nat.zero_add,
      Nat.add_comm]

section

variable (encrypt : Block → Block)

/-- The keystream block that byte `j` of a message takes. -/
def blockAt (ks : Block) (pos : BitVec 4) (j : Nat) : Block :=
  encrypt^[regenerations pos.toNat j] ks

theorem blockAt_zero (ks : Block) (pos : BitVec 4) :
    blockAt encrypt ks pos 0 = if pos = 0 then encrypt ks else ks := by
  have hlt := pos.isLt
  have hpos : pos = 0 ↔ pos.toNat = 0 := BitVec.toNat_inj.symm
  simp only [blockAt, regenerations, hpos]
  rw [Nat.add_zero, Nat.div_eq_of_lt hlt, Nat.add_zero]
  split <;> rfl

theorem blockAt_succ (ks : Block) (pos : BitVec 4) (j : Nat) :
    blockAt encrypt ks pos (j + 1) =
      blockAt encrypt (if pos = 0 then encrypt ks else ks) (pos + 1) j := by
  have hpos : pos = 0 ↔ pos.toNat = 0 := BitVec.toNat_inj.symm
  have hnext : (pos + 1).toNat = (pos.toNat + 1) % 16 := BitVec.toNat_add pos 1
  rw [blockAt, blockAt, hnext, regenerations_succ j pos.isLt, Function.iterate_add_apply]
  simp only [hpos]
  split <;> rfl

theorem ofbLoop_cons (b : Byte) (m : List Byte) (ks : Block) (pos : BitVec 4) :
    ofbLoop encrypt (b :: m) ks pos =
      let r := ofbLoop encrypt m (blockAt encrypt ks pos 0) (pos + 1)
      ⟨(b ^^^ (blockAt encrypt ks pos 0)[pos.toNat]) :: r.out, r.ks, r.pos⟩ := by
  rw [blockAt_zero]
  rfl

/-- Each output byte is its message byte XORed with the keystream byte at its position. -/
theorem ofbLoop_out_getElem? (m : List Byte) (ks : Block) (pos : BitVec 4) (j : Nat) :
    (ofbLoop encrypt m ks pos).out[j]? = m[j]?.map fun b =>
      b ^^^ (blockAt encrypt ks pos j)[(pos.toNat + j) % 16]'(Nat.mod_lt _ (by decide)) := by
  induction m generalizing ks pos j with
  | nil => rfl
  | cons b m ih =>
    rw [ofbLoop_cons]
    cases j with
    | zero => simp [Nat.mod_eq_of_lt pos.isLt]
    | succ j =>
      have hindex : ((pos + 1).toNat + j) % 16 = (pos.toNat + (j + 1)) % 16 := by
        rw [BitVec.toNat_add, Nat.mod_add_mod, Nat.add_right_comm]
        rfl
      simp only [List.getElem?_cons_succ, ih, hindex, blockAt_zero, blockAt_succ]

/-- The keystream block that the last byte took is the one that is left. -/
theorem ofbLoop_ks (m : List Byte) (n : Nat) (hm : m.length = n + 1) (ks : Block) (pos : BitVec 4) :
    (ofbLoop encrypt m ks pos).ks = blockAt encrypt ks pos n := by
  induction m generalizing ks pos n with
  | nil => simp at hm
  | cons b m ih =>
    rw [ofbLoop_cons]
    cases n with
    | zero =>
      obtain rfl : m = [] := by simpa using hm
      rfl
    | succ n =>
      rw [blockAt_succ, ← blockAt_zero]
      exact ih n (by simpa using hm) _ _

/-- From byte index `i` on the source's loop is the engine's loop from position `i` modulo 16
(R240, R242). -/
theorem ofbRefFrom_eq_ofbLoop (i : Nat) (ks : Block) (m : List Byte) :
    ofbRefFrom encrypt i ks m = (ofbLoop encrypt m ks (BitVec.ofNat 4 i)).out := by
  induction m generalizing i ks with
  | nil => rfl
  | cons b m ih =>
    have hpos : BitVec.ofNat 4 i = 0#4 ↔ i % 16 = 0 := by
      rw [← BitVec.toNat_inj, BitVec.toNat_ofNat]
      rfl
    have hnext : BitVec.ofNat 4 (i + 1) = BitVec.ofNat 4 i + 1 := BitVec.ofNat_add i 1
    rw [ofbLoop_cons, blockAt_zero, ofbRefFrom, ih, hnext]
    simp [hpos]

/-- The source's loop over its own output: the same keystream again cancels (R244). -/
theorem ofbRefFrom_ofbRefFrom (i : Nat) (ks : Block) (m : List Byte) :
    ofbRefFrom encrypt i ks (ofbRefFrom encrypt i ks m) = m := by
  induction m generalizing i ks with
  | nil => rfl
  | cons b m ih => simp [ofbRefFrom, ih]

end

end Sys2Proof.Machine
end

section
/-! `OFBXOR` with a context and a stream (R242 to R248). -/

namespace Sys2Proof.Machine

theorem exec_ofbxor (n : Nat) {s : State} (hvalid : s.ctxValid = true)
    (hready : s.ofbReady = true) :
    exec (.ofbxor n) s = .next (finish .ok (effect (.ofbxor n) s)) := by
  have hcode : execCode (.ofbxor n) s = .ok := by simp [hvalid, hready]
  rw [exec_eq_finish, performed_of_ok hcode, hcode]

/-- A command of at most 16 bytes regenerates the keystream block at most once (R247). -/
theorem blockAt_of_lt (encrypt : Block → Block) (ks : Block) (pos : BitVec 4) {j : Nat}
    (hj : j < 16) :
    blockAt encrypt ks pos j = if pos.toNat = 0 ∨ 16 ≤ pos.toNat + j then encrypt ks else ks := by
  have hlt := pos.isLt
  have hcount : regenerations pos.toNat j =
      if pos.toNat = 0 ∨ 16 ≤ pos.toNat + j then 1 else 0 := by
    unfold regenerations
    split_ifs <;> omega
  rw [blockAt, hcount]
  split <;> rfl

theorem messageBytes_getElem? (n : Nat) (din : Vector Word 4) (j : Fin 16) :
    (messageBytes n din)[j.val]? = if j.val < n then some (blockOf din)[j] else none := by
  rw [messageBytes, List.getElem?_take]
  split
  · simp
  · rfl

/-- Byte `j` of the output block is byte `j` of the output, 0 past its end (R242). -/
theorem zeroPadded_getElem (o : List Byte) (j : Fin 16) :
    (zeroPadded o)[j] = (o[j.val]?).getD 0 := by
  simp [zeroPadded]

/-- Settles O42: the loop in closed form, over a message of at most 16 bytes. -/
theorem ofbxorXorsTheKeystream : Obligations.OfbxorXorsTheKeystream := by
  intro n s hpos hmax hvalid hready p following
  have hlength : (messageBytes n s.din).length = n - 1 + 1 := by
    rw [messageBytes_length n s.din hmax, Nat.sub_add_cancel hpos]
  refine ⟨_, exec_ofbxor n hvalid hready, fun j => ?out, ?ks, ?position, rfl⟩
  case out =>
    have hblock : blockOf (finish .ok (effect (.ofbxor n) s)).dout =
        zeroPadded (ofbLoop (contextEncrypt s) (messageBytes n s.din) s.ks s.ofbPos).out :=
      blockOf_wordsOf _
    rw [hblock, zeroPadded_getElem, ofbLoop_out_getElem?, messageBytes_getElem?]
    split
    · simp only [blockAt_of_lt _ _ _ j.isLt]
      rfl
    · rfl
  case ks =>
    have hlast : 16 ≤ p + (n - 1) ↔ 16 < p + n := by omega
    have hks : (finish .ok (effect (.ofbxor n) s)).ks =
        blockAt (contextEncrypt s) s.ks s.ofbPos (n - 1) :=
      ofbLoop_ks _ _ (n - 1) hlength _ _
    rw [hks, blockAt_of_lt _ _ _ (by omega)]
    simp only [← hlast]
    rfl
  case position =>
    have hofbPos : (finish .ok (effect (.ofbxor n) s)).ofbPos =
        s.ofbPos + BitVec.ofNat 4 (messageBytes n s.din).length :=
      ofbLoop_pos _ _ _ _
    rw [hofbPos, messageBytes_length n s.din hmax, BitVec.toNat_add, BitVec.toNat_ofNat]
    exact Nat.add_mod_mod _ _ _

/-- The bytes that the host collects are the output of the loop (R243). -/
theorem take_zeroPadded {o : List Byte} (h : o.length ≤ 16) :
    (zeroPadded o).toList.take o.length = o := by
  apply List.ext_getElem
  · simp [h]
  · intro j hj hj'
    simp [zeroPadded, hj']

/-- Every piece of at most 16 bytes is fed, and the pieces together are one run of the loop. -/
theorem feedPieces_eq (pieces : List Piece) (s : State) (hvalid : s.ctxValid = true)
    (hready : s.ofbReady = true) (hmax : ∀ p ∈ pieces, p.n ≤ 16) :
    ∃ t, feedPieces s pieces = some ((ofbLoop (contextEncrypt s)
      (pieces.flatMap fun p => messageBytes p.n p.din) s.ks s.ofbPos).out, t) := by
  induction pieces generalizing s with
  | nil => exact ⟨s, rfl⟩
  | cons p pieces ih =>
    obtain ⟨hp, hpieces⟩ := List.forall_mem_cons.1 hmax
    let u : State := finish .ok (effect (.ofbxor p.n) { s with din := p.din })
    have hexec : exec (.ofbxor p.n) { s with din := p.din } = .next u :=
      exec_ofbxor p.n hvalid hready
    have hok : u.err = .ok := rfl
    obtain ⟨t, ht⟩ := ih u hvalid hready hpieces
    have hlength : (ofbLoop (contextEncrypt s) (messageBytes p.n p.din) s.ks s.ofbPos).out.length =
        p.n := by
      rw [ofbLoop_out_length, messageBytes_length p.n p.din hp]
    have hout : (blockOf u.dout).toList.take p.n =
        (ofbLoop (contextEncrypt s) (messageBytes p.n p.din) s.ks s.ofbPos).out := by
      have hblock : blockOf u.dout = zeroPadded
          (ofbLoop (contextEncrypt s) (messageBytes p.n p.din) s.ks s.ofbPos).out :=
        blockOf_wordsOf _
      have htake := take_zeroPadded (hlength.trans_le hp)
      rw [hlength] at htake
      rw [hblock, htake]
    refine ⟨t, ?_⟩
    rw [List.flatMap_cons, ofbLoop_append]
    simp only [feedPieces, hexec]
    rw [if_pos hok, ht, hout]
    rfl

/-- Settles O43: `OFBINIT` puts the loop where the source's loop starts (R240, R241). -/
theorem chunkedStreamEqualsTheReference : Obligations.ChunkedStreamEqualsTheReference := by
  intro s pieces hvalid hpieces
  let s₀ : State := finish .ok (setStream (blockOf s.iv) 0 true s)
  have hvalid₀ : s₀.ctxValid = true := by simpa [s₀] using hvalid
  obtain ⟨t, ht⟩ := feedPieces_eq pieces s₀ hvalid₀ rfl fun p hp => (hpieces p hp).2
  have hencrypt : contextEncrypt s₀ = encryptBlock s.w s.ctxKsz.nr := by
    funext b
    simp [s₀, contextEncrypt]
  have hks : s₀.ks = blockOf s.iv := rfl
  have hpos : s₀.ofbPos = BitVec.ofNat 4 0 := rfl
  refine ⟨s₀, t, exec_ofbinit s, ?_⟩
  rw [ht, hencrypt, hks, hpos, ofbRef, ofbRefFrom_eq_ofbLoop]
  rfl

/-- Settles O44: the keystream of the second run is that of the first, and cancels. -/
theorem ofbIsItsOwnInverse : Obligations.OfbIsItsOwnInverse := by
  refine ⟨fun encrypt => ofbRefFrom_ofbRefFrom encrypt 0, fun n s hpos hmax hvalid hready => ?_⟩
  obtain ⟨t, ht, houtT, -⟩ := ofbxorXorsTheKeystream n s hpos hmax hvalid hready
  obtain ⟨u, hu, houtU, -⟩ :=
    ofbxorXorsTheKeystream n { s with din := t.dout } hpos hmax hvalid hready
  refine ⟨t, u, ht, hu, fun j hj => ?_⟩
  rw [houtU j, if_pos hj, houtT j, if_pos hj, BitVec.xor_assoc, BitVec.xor_self, BitVec.xor_zero]

/-- Settles O45: the two runs take the same keystream, which cancels between their outputs. -/
theorem keystreamIgnoresTheMessage : Obligations.KeystreamIgnoresTheMessage := by
  intro n s din hpos hmax hvalid hready
  obtain ⟨t, ht, houtT, hksT, hposT, -⟩ := ofbxorXorsTheKeystream n s hpos hmax hvalid hready
  obtain ⟨u, hu, houtU, hksU, hposU, -⟩ :=
    ofbxorXorsTheKeystream n { s with din := din } hpos hmax hvalid hready
  refine ⟨t, u, ht, hu, hksT.trans hksU.symm, BitVec.eq_of_toNat_eq (hposT.trans hposU.symm),
    fun j hj => ?_⟩
  rw [houtT j, if_pos hj, houtU j, if_pos hj]
  have hcancel (a b k : Byte) : (a ^^^ k) ^^^ (b ^^^ k) = a ^^^ b := by
    rw [BitVec.xor_comm b k, BitVec.xor_assoc, ← BitVec.xor_assoc k k b, BitVec.xor_self,
      BitVec.zero_xor]
  exact hcancel _ _ _

end Sys2Proof.Machine
end

section
/-! Host reads by register, the fields of `STATUS`, and accesses made twice (R34 to R37, R39, R75 to
R77, R274). -/

namespace Sys2Proof.Machine

/-- The word indexes of a register (R32). -/
def PlacedAt : Reg → Nat → Prop
  | .cmd, n => n = 0
  | .status, n => n = 1
  | .ie, n => n = 2
  | .key k, n => n = 4 + k.val
  | .din k, n => n = 12 + k.val
  | .dout k, n => n = 16 + k.val
  | .iv k, n => n = 20 + k.val
  | .reserved, n => n = 3 ∨ 24 ≤ n

/-- Every register lies at its own indexes only. -/
theorem placedAt_of_regAt {idx : WordIndex} {r : Reg} (h : regAt idx = r) :
    PlacedAt r idx.toNat := by
  subst h
  simp only [regAt]
  split_ifs <;> simp only [PlacedAt] <;> omega

section BusRead

variable {idx : WordIndex} (s : State)

theorem busRead_of_status (h : regAt idx = .status) : busRead idx s = statusWord s := by
  simp only [busRead, h]

theorem busRead_of_ie (h : regAt idx = .ie) : busRead idx s = s.ie.setWidth 32 := by
  simp only [busRead, h]

theorem busRead_din (k : Fin 4) (h : regAt idx = .din k) : busRead idx s = s.din[k] := by
  simp only [busRead, h]

theorem busRead_dout (k : Fin 4) (h : regAt idx = .dout k) : busRead idx s = s.dout[k] := by
  simp only [busRead, h]

theorem busRead_iv (k : Fin 4) (h : regAt idx = .iv k) : busRead idx s = s.iv[k] := by
  simp only [busRead, h]

theorem busRead_key (k : Fin 8) (h : regAt idx = .key k) : busRead idx s = 0 := by
  simp only [busRead, h]

/-- `CMD`, the key registers and the reserved offsets read 0 (R33, R36, R75). -/
theorem busRead_zero
    (h : idx.toNat = 0 ∨ idx.toNat = 3 ∨ (4 ≤ idx.toNat ∧ idx.toNat < 12) ∨ 24 ≤ idx.toNat) :
    busRead idx s = 0 := by
  obtain h | h | ⟨hlow, hhigh⟩ | h := h
  · simp only [busRead, regAt_cmd h]
  · simp only [busRead, regAt_reserved (.inl h)]
  · exact busRead_key s ⟨idx.toNat - 4, by omega⟩ (regAt_key _ (Nat.add_sub_of_le hlow).symm)
  · simp only [busRead, regAt_reserved (.inr h)]

end BusRead

/-- `STATUS` as the sum of its fields at their places (R34). -/
theorem statusWord_toNat (s : State) : (statusWord s).toNat =
    s.err.code.toNat * 4096 + s.ofbPos.toNat * 256 + s.ctxKsz.code.toNat * 64 +
      s.ovr.toNat * 16 + s.done.toNat * 8 + s.ofbReady.toNat * 4 + s.ctxValid.toNat * 2 +
      s.busy.toNat := by
  have herr := toNat_field s.err.code 12 (by omega)
  have hpos := toNat_or_field s.ofbPos 8 (by omega) herr
  have hksz := toNat_or_field s.ctxKsz.code 6 (by omega) hpos
  have hovr := toNat_or_field (BitVec.ofBool s.ovr) 4 (by omega)
    (hksz.trans (Nat.mul_assoc _ 2 (2 ^ 5)).symm)
  have hdone := toNat_or_field (BitVec.ofBool s.done) 3 (by omega) hovr
  have hready := toNat_or_field (BitVec.ofBool s.ofbReady) 2 (by omega) hdone
  have hvalid := toNat_or_field (BitVec.ofBool s.ctxValid) 1 (by omega) hready
  have hbusy := toNat_or_field (BitVec.ofBool s.busy) 0 (by omega) hvalid
  rw [BitVec.shiftLeft_zero] at hbusy
  refine hbusy.trans ?_
  simp only [BitVec.toNat_ofBool]
  omega

/-- A step whose next event is a host read notes what the read returns (R75, R79). -/
theorem step_read (s : State) (idx : WordIndex) (rest : List Event)
    (h : s.agenda = .read idx :: rest) :
    step s = .next (noteRead idx (busRead idx (setAgenda rest s)) (setAgenda rest s)) :=
  step_of_next (.inl h)

/-- A step that leaves a command pending is no completion and no reset, so it keeps `DOUT` (R38). -/
theorem step_dout_of_pending {s t : State} (hstep : step s = .next t) (hbusy : t.busy = true) :
    t.dout = s.dout := by
  rcases step_cases s with ⟨idx, rest, _, e⟩ | ⟨idx, v, rest, _, e⟩ | ⟨rest, _, _, e⟩ |
    ⟨rest, _, _, e⟩ | ⟨rest, _, e⟩ <;> rw [e] at hstep
  case inr.inr.inl =>
    obtain rfl := Host.Outcome.next.inj ((complete_eq_finish _).symm.trans hstep)
    simp at hbusy
  all_goals obtain rfl := Host.Outcome.next.inj hstep
  · rfl
  · obtain ⟨-, -, -, -, -, -, hdout, -⟩ := busWrite_frame idx v (setAgenda rest s)
    exact hdout
  · rfl
  · simp at hbusy

/-- Settles O16: the register at each index and the value it reads as; the agenda does not enter
into it. -/
theorem hostReadByRegister : Obligations.HostReadByRegister := by
  refine ⟨fun s idx rest hagenda => ?_, fun s t => step_dout_of_pending⟩
  refine ⟨_, step_read s idx rest hagenda, fun h => ?status, fun h => ?ie, fun k h => ?din,
    fun k h => ?dout, fun k h => ?iv, fun h => ?zero⟩
  case status =>
    rw [busRead_of_status _ (regAt_status h)]
    exact statusWord_toNat (setAgenda rest s)
  case ie =>
    rw [busRead_of_ie _ (regAt_ie h), BitVec.toNat_setWidth_of_le (by omega)]
    rfl
  case din => exact busRead_din _ k (regAt_din k h)
  case dout => exact busRead_dout _ k (regAt_dout k h)
  case iv => exact busRead_iv _ k (regAt_iv k h)
  case zero => exact busRead_zero _ h

/-- The fields of `STATUS` of more than one bit (R34). -/
theorem statusWord_fields (s : State) :
    (statusWord s).extractLsb' 6 2 = s.ctxKsz.code ∧ (statusWord s).extractLsb' 8 4 = s.ofbPos ∧
    (statusWord s).extractLsb' 12 4 = s.err.code ∧ (statusWord s).extractLsb' 16 16 = 0 := by
  have hovr := Bool.toNat_le s.ovr
  have hdone := Bool.toNat_le s.done
  have hready := Bool.toNat_le s.ofbReady
  have hvalid := Bool.toNat_le s.ctxValid
  have hbusy := Bool.toNat_le s.busy
  refine ⟨?_, ?_, ?_, ?_⟩ <;> rw [← BitVec.toNat_inj, BitVec.extractLsb'_toNat, statusWord_toNat,
    Nat.shiftRight_eq_div_pow]
  · omega
  · omega
  · omega
  · change _ = 0
    omega

theorem errCode_le (code : ErrCode) : code.code.toNat ≤ 5 := by cases code <;> decide

theorem keySizeCode_le (size : KeySize) : size.code.toNat ≤ 2 := by cases size <;> decide

/-- Settles O17: the bits one by one, and the wider fields from the sum. -/
theorem statusShowsItsFields : Obligations.StatusShowsItsFields := by
  intro s v
  have hv : v = statusWord s := rfl
  have hdone := statusWord_getLsbD_done s
  have hovr := statusWord_getLsbD_ovr s
  obtain ⟨hksz, hpos, herr, hreserved⟩ := statusWord_fields s
  rw [hv, hksz, hpos, herr]
  refine ⟨?_, ?_, ?_, hdone, hovr, ?_, rfl, rfl, rfl, hreserved, errCode_le _, keySizeCode_le _⟩ <;>
    simp [statusWord]

/-- A dropped write stays dropped, and a register takes the same value again (R77). -/
theorem busWrite_busWrite (idx : WordIndex) (v : Word) (s : State) (hne : idx ≠ 0) :
    busWrite idx v (busWrite idx v s) = busWrite idx v s := by
  cases hreg : regAt idx with
  | cmd =>
    have hzero : idx.toNat = (0 : WordIndex).toNat := placedAt_of_regAt hreg
    exact absurd (BitVec.eq_of_toNat_eq hzero) hne
  | status => simp [busWrite_status _ _ hreg, acknowledge]
  | ie => simp [busWrite_ie _ _ hreg, setIe]
  | dout k => simp [busWrite_dout _ _ k hreg]
  | reserved => simp [busWrite_reserved _ _ hreg]
  | key k =>
    cases hbusy : s.busy <;> simp [busWrite_key _ _ k hreg, hbusy, setKey, dropWrite]
  | din k =>
    cases hbusy : s.busy <;> simp [busWrite_din _ _ k hreg, hbusy, setDin, dropWrite]
  | iv k =>
    cases hbusy : s.busy <;> simp [busWrite_iv _ _ k hreg, hbusy, setIv, dropWrite]

/-- Settles O18: a read leaves every register as it is, and a register takes the same value again.
-/
theorem accessesAreIdempotent : Obligations.AccessesAreIdempotent := by
  refine ⟨fun s idx rest h => ⟨_, step_read s idx rest h⟩, fun s idx rest h => ?twice,
    fun s idx jdx v => rfl, fun s idx v hne => ?write⟩
  case twice =>
    have hsecond := step_read (noteRead idx (busRead idx s) (setAgenda (.read idx :: rest) s)) idx
      rest rfl
    refine ⟨busRead idx s, ?_⟩
    rw [stepsFrom_succ 1 s _ (step_read s idx _ h)]
    exact (stepsFrom_succ 0 _ _ hsecond).trans (stepsFrom_zero _)
  case write =>
    exact busWrite_busWrite idx v s hne

/-- A word index in the register map. -/
theorem toNat_index {n : Nat} (h : n < 64) : (BitVec.ofNat 6 n).toNat = n := by
  rw [BitVec.toNat_ofNat]
  exact Nat.mod_eq_of_lt h

/-- Settles O19: the register at each index, written and read. -/
theorem writtenRegisterReadsBack : Obligations.WrittenRegisterReadsBack := by
  intro s v hidle
  refine ⟨fun k => ?din, fun k => ?iv, ?ie, fun k => ?key⟩
  case din =>
    have hreg : regAt (BitVec.ofNat 6 (12 + k.val)) = .din k :=
      regAt_din k (toNat_index (by omega))
    rw [busRead_din _ k hreg, busWrite_din v s k hreg, if_neg (Bool.eq_false_iff.1 hidle)]
    simp [setDin]
  case iv =>
    have hreg : regAt (BitVec.ofNat 6 (20 + k.val)) = .iv k :=
      regAt_iv k (toNat_index (by omega))
    rw [busRead_iv _ k hreg, busWrite_iv v s k hreg, if_neg (Bool.eq_false_iff.1 hidle)]
    simp [setIv]
  case ie =>
    rw [busWrite_ie v s (regAt_ie rfl), busRead_ie, BitVec.toNat_setWidth_of_le (by omega)]
    simp [setIe]
  case key =>
    have hreg : regAt (BitVec.ofNat 6 (4 + k.val)) = .key k :=
      regAt_key k (toNat_index (by omega))
    refine ⟨?_, busRead_key _ k hreg⟩
    rw [busWrite_key v s k hreg, if_neg (Bool.eq_false_iff.1 hidle)]
    simp [setKey]

/-- Settles O21: the interrupt output after a write of `IE` and after a write of `STATUS` (R274). -/
theorem enablingAPendingSourceInterrupts : Obligations.EnablingAPendingSourceInterrupts := by
  intro s v
  rw [busWrite_ie v s (regAt_ie rfl), busWrite_status v s (regAt_status rfl)]
  refine ⟨fun hdone hv => ?_, fun hovr hv => ?_, fun h3 h4 => ?_⟩
  · simp [irq, setIe, hdone, hv]
  · simp [irq, setIe, hovr, hv]
  · simp [irq, h3, h4]

end Sys2Proof.Machine
end

section
/-! What a whole step changes, and when (R34, R38, R41, R43, R154, R274, R329). -/

namespace Sys2Proof.Machine

theorem effect_inputs (i : Instr) (s : State) :
    (effect i s).key = s.key ∧ (effect i s).din = s.din ∧ (effect i s).iv = s.iv := by
  rw [effect_frame]
  exact ⟨rfl, rfl, rfl⟩

/-- The context, the stream and the output block change only at a reset and at the completion of a
command that succeeds, which leaves its own effect. -/
theorem step_engine_cases {s t : State} (hstep : step s = .next t) :
    (∃ rest, s.agenda = .reset :: rest) ∨
    (s.busy = true ∧ t.err = .ok ∧ ∃ rest i, s.Next .complete rest ∧ decode s.pend = .cmd i ∧
      t = finish .ok (effect i (setAgenda rest s))) ∨
    ((t.ctxValid = s.ctxValid ∧ t.ctxKsz = s.ctxKsz ∧ t.w = s.w) ∧
      (t.ks = s.ks ∧ t.ofbPos = s.ofbPos ∧ t.ofbReady = s.ofbReady) ∧ t.dout = s.dout) := by
  rcases step_cases s with ⟨idx, rest, _, e⟩ | ⟨idx, v, rest, _, e⟩ | ⟨rest, hnext, hbusy, e⟩ |
    ⟨rest, _, _, e⟩ | ⟨rest, hreset, e⟩ <;> rw [e] at hstep
  case inr.inr.inl =>
    rcases complete_cases _ t hstep with ⟨i, hdecode, _, _, rfl⟩ | ⟨code, _, rfl⟩
    · exact .inr (.inl ⟨hbusy, rfl, rest, i, hnext, hdecode, rfl⟩)
    · exact .inr (.inr ⟨⟨rfl, rfl, rfl⟩, ⟨rfl, rfl, rfl⟩, rfl⟩)
  all_goals obtain rfl := Host.Outcome.next.inj hstep
  · exact .inr (.inr ⟨⟨rfl, rfl, rfl⟩, ⟨rfl, rfl, rfl⟩, rfl⟩)
  · obtain ⟨hvalid, hksz, hw, hks, hpos, hready, hdout, -⟩ :=
      busWrite_frame idx v (setAgenda rest s)
    exact .inr (.inr ⟨⟨hvalid, hksz, hw⟩, ⟨hks, hpos, hready⟩, hdout⟩)
  · exact .inr (.inr ⟨⟨rfl, rfl, rfl⟩, ⟨rfl, rfl, rfl⟩, rfl⟩)
  · exact .inl ⟨rest, hreset⟩

/-- Settles O36: among the commands only `KEYINIT` has an effect on the context. -/
theorem onlyKeyinitAndResetChangeTheContext : Obligations.OnlyKeyinitAndResetChangeTheContext := by
  intro s t hstep hchanged
  rcases step_engine_cases hstep with hreset | ⟨hbusy, hok, rest, i, hnext, hdecode, rfl⟩ |
    ⟨hcontext, -⟩
  · exact .inl hreset
  · refine .inr ⟨hbusy, hok, ⟨rest, hnext⟩, ?_⟩
    cases i with
    | keyinit size => exact ⟨size, hdecode⟩
    | nop | enc | dec | ofbinit | ofbxor n => simp [effect] at hchanged
  · exact absurd hcontext hchanged

/-- Settles O46: among the commands `NOP`, `ENC` and `DEC` have no effect on the stream. -/
theorem onlyOfbAndKeyinitChangeTheStream : Obligations.OnlyOfbAndKeyinitChangeTheStream := by
  intro s t hstep hchanged
  rcases step_engine_cases hstep with hreset | ⟨hbusy, hok, rest, i, hnext, hdecode, rfl⟩ |
    ⟨-, hstream, -⟩
  · exact .inl hreset
  · refine .inr ⟨hbusy, hok, ⟨rest, hnext⟩, i, hdecode, ?_⟩
    cases i with
    | ofbinit => exact .inl rfl
    | keyinit size => exact .inr (.inl ⟨size, rfl⟩)
    | ofbxor n => exact .inr (.inr ⟨n, rfl⟩)
    | nop | enc | dec => simp [effect] at hchanged
  · exact absurd hstream hchanged

/-- Settles O47: among the commands `NOP`, `KEYINIT` and `OFBINIT` have no effect on `DOUT`. -/
theorem onlyBlockCommandsChangeDout : Obligations.OnlyBlockCommandsChangeDout := by
  intro s t hstep hchanged
  rcases step_engine_cases hstep with hreset | ⟨hbusy, hok, rest, i, hnext, hdecode, rfl⟩ |
    ⟨-, -, hdout⟩
  · exact .inl hreset
  · refine .inr ⟨hbusy, hok, ⟨rest, hnext⟩, i, hdecode, ?_⟩
    cases i with
    | enc => exact .inl rfl
    | dec => exact .inr (.inl rfl)
    | ofbxor n => exact .inr (.inr ⟨n, rfl⟩)
    | nop | keyinit size | ofbinit => simp [effect] at hchanged
  · exact absurd hdout hchanged

/-- An input register takes a write of an idle engine (R76). -/
theorem busWrite_inputs {idx : WordIndex} {v : Word} {s : State}
    (h : ¬((busWrite idx v s).key = s.key ∧ (busWrite idx v s).din = s.din ∧
      (busWrite idx v s).iv = s.iv)) :
    s.busy = false ∧ ((4 ≤ idx.toNat ∧ idx.toNat < 16) ∨ (20 ≤ idx.toNat ∧ idx.toNat < 24)) := by
  rcases busWrite_cases idx v s with ⟨_, e⟩ | ⟨_, _, e⟩ | ⟨_, e⟩ | ⟨_, e⟩ | ⟨hidle, k, hreg, _⟩ |
    ⟨hidle, k, hreg, _⟩ | ⟨hidle, k, hreg, _⟩ | e
  case inr.inr.inr.inr.inl | inr.inr.inr.inr.inr.inl | inr.inr.inr.inr.inr.inr.inl =>
    have hplaced := placedAt_of_regAt hreg
    simp only [PlacedAt] at hplaced
    exact ⟨hidle, by omega⟩
  all_goals
    rw [e] at h
    exact absurd ⟨rfl, rfl, rfl⟩ h

/-- Settles O48: a completion, a read and an idle turn leave the input registers as they are. -/
theorem onlyHostWritesChangeInputs : Obligations.OnlyHostWritesChangeInputs := by
  intro s t hstep hchanged
  rcases step_cases s with ⟨idx, rest, _, e⟩ | ⟨idx, v, rest, hwrite, e⟩ | ⟨rest, _, _, e⟩ |
    ⟨rest, _, _, e⟩ | ⟨rest, hreset, e⟩ <;> rw [e] at hstep
  case inr.inr.inl =>
    rcases complete_cases _ t hstep with ⟨i, _, _, _, rfl⟩ | ⟨code, _, rfl⟩
    · exact absurd (effect_inputs i (setAgenda rest s)) hchanged
    · exact absurd ⟨rfl, rfl, rfl⟩ hchanged
  all_goals obtain rfl := Host.Outcome.next.inj hstep
  · exact absurd ⟨rfl, rfl, rfl⟩ hchanged
  · obtain ⟨hidle, hindex⟩ := busWrite_inputs (s := setAgenda rest s) hchanged
    exact .inr ⟨hidle, idx, v, rest, hwrite, hindex⟩
  · exact absurd ⟨rfl, rfl, rfl⟩ hchanged
  · exact .inl ⟨rest, hreset⟩

end Sys2Proof.Machine
end

section
/-! When `DONE` and `OVR` change (R34, R274). -/

namespace Sys2Proof.Machine

/-- A completion leaves alone what its command's effect leaves alone. -/
theorem completionEffect_frame (s : State) :
    completionEffect s = { s with
      dout := (completionEffect s).dout, ctxValid := (completionEffect s).ctxValid,
      ctxKsz := (completionEffect s).ctxKsz, w := (completionEffect s).w,
      ks := (completionEffect s).ks, ofbReady := (completionEffect s).ofbReady,
      ofbPos := (completionEffect s).ofbPos, draws := (completionEffect s).draws } := by
  unfold completionEffect
  split
  · exact performed_frame _ s
  · rfl

theorem completionEffect_ovr (s : State) : (completionEffect s).ovr = s.ovr := by
  rw [completionEffect_frame]

section BusWrite

variable {idx : WordIndex} {v : Word} {s : State}

/-- A write sets `OVR` only where it is dropped (R76). -/
theorem busWrite_ovr_set (hclear : s.ovr = false) (hset : (busWrite idx v s).ovr = true) :
    s.busy = true ∧ (idx.toNat = 0 ∨ (4 ≤ idx.toNat ∧ idx.toNat < 16) ∨
      (20 ≤ idx.toNat ∧ idx.toNat < 24)) := by
  cases hreg : regAt idx with
  | status => simp [busWrite_status _ _ hreg, hclear] at hset
  | ie => simp [busWrite_ie _ _ hreg, hclear] at hset
  | dout k => simp [busWrite_dout _ _ k hreg, hclear] at hset
  | reserved => simp [busWrite_reserved _ _ hreg, hclear] at hset
  | cmd | key k | din k | iv k =>
    have hplaced := placedAt_of_regAt hreg
    simp only [PlacedAt] at hplaced
    refine ⟨?_, by omega⟩
    by_contra hidle
    simp [busWrite, hreg, hidle, hclear] at hset

/-- A write clears `OVR` only by a 1 to `STATUS[4]` (R76). -/
theorem busWrite_ovr_cleared (hset : s.ovr = true) (hclear : (busWrite idx v s).ovr = false) :
    idx = 1 ∧ v.getLsbD 4 = true := by
  rcases busWrite_cases idx v s with ⟨_, e⟩ | ⟨_, _, e⟩ | ⟨hreg, e⟩ | ⟨_, e⟩ | ⟨_, _, _, e⟩ |
    ⟨_, _, _, e⟩ | ⟨_, _, _, e⟩ | e <;> rw [e] at hclear <;> simp [hset] at hclear
  exact ⟨BitVec.eq_of_toNat_eq (placedAt_of_regAt hreg), hclear⟩

/-- A write clears `DONE` only by a 1 to `STATUS[3]` or as an issue (R76, R130). -/
theorem busWrite_done_cleared (hset : s.done = true) (hclear : (busWrite idx v s).done = false) :
    (idx = 1 ∧ v.getLsbD 3 = true) ∨ (s.busy = false ∧ idx = 0) := by
  rcases busWrite_cases idx v s with ⟨_, e⟩ | ⟨hidle, hreg, e⟩ | ⟨hreg, e⟩ | ⟨_, e⟩ | ⟨_, _, _, e⟩ |
    ⟨_, _, _, e⟩ | ⟨_, _, _, e⟩ | e <;> rw [e] at hclear <;> simp [hset] at hclear
  · exact .inr ⟨hidle, BitVec.eq_of_toNat_eq (placedAt_of_regAt hreg)⟩
  · exact .inl ⟨BitVec.eq_of_toNat_eq (placedAt_of_regAt hreg), hclear⟩

/-- No write sets `DONE`. -/
theorem busWrite_done_of_clear (hclear : s.done = false) : (busWrite idx v s).done = false := by
  rcases busWrite_cases idx v s with ⟨_, e⟩ | ⟨_, _, e⟩ | ⟨_, e⟩ | ⟨_, e⟩ | ⟨_, _, _, e⟩ |
    ⟨_, _, _, e⟩ | ⟨_, _, _, e⟩ | e <;> rw [e] <;> simp [hclear]

end BusWrite

/-- Settles O22: a read and an idle turn leave both bits, a completion sets `DONE` and leaves `OVR`,
and a write is one of those above. -/
theorem stickyBitsChangeOnlyAsListed : Obligations.StickyBitsChangeOnlyAsListed := by
  intro s t hstep
  rcases step_cases s with ⟨idx, rest, _, e⟩ | ⟨idx, v, rest, hwrite, e⟩ | ⟨rest, hnext, hbusy, e⟩ |
    ⟨rest, _, _, e⟩ | ⟨rest, hreset, e⟩ <;> rw [e] at hstep
  case inr.inr.inl =>
    obtain rfl := Host.Outcome.next.inj ((complete_eq_finish _).symm.trans hstep)
    simp only [finish_ovr, finish_done, completionEffect_ovr, setAgenda_ovr]
    exact ⟨by simp_all, by simp_all, by simp, fun _ _ => ⟨hbusy, rest, hnext⟩⟩
  all_goals obtain rfl := Host.Outcome.next.inj hstep
  case inr.inl =>
    refine ⟨fun hset hclear => ?_, fun hclear hset => ?_, fun hset hclear => ?_,
      fun hclear hset => ?_⟩
    · obtain ⟨rfl, hv⟩ := busWrite_ovr_cleared (s := setAgenda rest s) hset hclear
      exact .inr ⟨v, rest, hwrite, hv⟩
    · obtain ⟨hbusy, hindex⟩ := busWrite_ovr_set (s := setAgenda rest s) hclear hset
      exact ⟨hbusy, idx, v, rest, hwrite, hindex⟩
    · rcases busWrite_done_cleared (s := setAgenda rest s) hset hclear with ⟨rfl, hv⟩ | ⟨hidle, rfl⟩
      · exact .inr (.inl ⟨v, rest, hwrite, hv⟩)
      · exact .inr (.inr ⟨hidle, v, rest, hwrite⟩)
    · simp [busWrite_done_of_clear (s := setAgenda rest s) hclear] at hset
  case inr.inr.inr.inr =>
    exact ⟨fun _ _ => .inl ⟨rest, hreset⟩, by simp, fun _ _ => .inl ⟨rest, hreset⟩, by simp⟩
  all_goals
    simp only [noteRead_ovr, noteRead_done, setAgenda_ovr, setAgenda_done]
    exact ⟨by simp_all, by simp_all, by simp_all, by simp_all⟩

end Sys2Proof.Machine
end

section
/-! The state after a reset (R320, R322). -/

namespace Sys2Proof.Machine

/-- Every register reads 0 after a reset (R320). -/
theorem busRead_afterReset (idx : WordIndex) (draws : Nat) (agenda : List Event)
    (reads : List ReadRecord) : busRead idx (State.afterReset draws agenda reads) = 0 := by
  cases hreg : regAt idx <;> simp only [busRead, hreg]
  case status =>
    apply BitVec.eq_of_toNat_eq
    simp [statusWord_toNat, State.afterReset, ErrCode.code, KeySize.code]
  case ie => rfl
  case din k | dout k | iv k => simp [State.afterReset]

/-- Settles O49: the reset state, with the agenda and the reads that the host has. -/
theorem resetClearsEveryElement : Obligations.ResetClearsEveryElement := by
  intro s rest hagenda
  refine ⟨_, step_of_next (.inl hagenda), rfl, fun k => ?_, fun k => ?_, rfl, rfl, rfl, rfl, rfl,
    rfl, rfl, rfl, rfl, busRead_afterReset 1 _ _ _, rfl, rfl, rfl⟩
  · simp
  · simp

/-- Settles O50: by definition of the reset state. -/
theorem resetStateHasTheStatedValues : Obligations.ResetStateHasTheStatedValues := by
  refine ⟨rfl, fun k => ?_, fun k => ?_, rfl, rfl, rfl, rfl, rfl, rfl, rfl, rfl, rfl, rfl,
    fun idx => busRead_afterReset idx 0 [] []⟩
  · simp [State.reset, State.afterReset]
  · simp [State.reset, State.afterReset]

end Sys2Proof.Machine
end

section
/-! A pending command under a run of several steps (R81, R134, R333). -/

namespace Sys2Proof.Machine

/-- What host accesses to a busy engine can change: `IE`, the sticky bits and the record of reads
(R76, R81). -/
def accessed (ie : BitVec 2) (ovr done : Bool) (reads : List ReadRecord) (s : State) : State :=
  { s with ie := ie, ovr := ovr, done := done, reads := reads }

theorem busWrite_of_busy {s : State} (hbusy : s.busy = true) (idx : WordIndex) (v : Word) :
    ∃ ie ovr done, busWrite idx v s = accessed ie ovr done s.reads s := by
  rcases busWrite_cases idx v s with ⟨_, e⟩ | ⟨hidle, _⟩ | ⟨_, e⟩ | ⟨_, e⟩ | ⟨hidle, _⟩ |
    ⟨hidle, _⟩ | ⟨hidle, _⟩ | e
  case inr.inl | inr.inr.inr.inr.inl | inr.inr.inr.inr.inr.inl | inr.inr.inr.inr.inr.inr.inl =>
    simp [hbusy] at hidle
  all_goals exact ⟨_, _, _, e⟩

theorem step_access_of_busy {s : State} {e : Event} {rest : List Event}
    (hagenda : s.agenda = e :: rest) (haccess : e.isAccess = true) (hbusy : s.busy = true) :
    ∃ ie ovr done reads, step s = .next (accessed ie ovr done reads (setAgenda rest s)) := by
  rw [step_of_next (.inl hagenda)]
  cases e with
  | read idx => exact ⟨_, _, _, _, rfl⟩
  | write idx v =>
    obtain ⟨ie, ovr, done, e⟩ := busWrite_of_busy (s := setAgenda rest s) hbusy idx v
    exact ⟨ie, ovr, done, s.reads, congrArg _ e⟩
  | complete | reset => simp [Event.isAccess] at haccess

theorem stepsFrom_one {s t : State} (h : step s = .next t) : stepsFrom 1 s = .next t := by
  rw [stepsFrom_succ 0 s t h, stepsFrom_zero]

/-- Settles O53: by induction on the agenda; a host access leaves the command pending, and a
completion, a reset or the end of the agenda ends it. -/
theorem pendingCommandEnds : Obligations.PendingCommandEnds := by
  intro s hbusy
  induction hagenda : s.agenda generalizing s with
  | nil =>
    have hstep :=
      (step_complete_of_busy (.inr ⟨hagenda, rfl, rfl⟩) hbusy).trans (complete_eq_finish _)
    exact ⟨1, _, by simp, stepsFrom_one hstep, rfl, fun _ => rfl⟩
  | cons e rest ih =>
    have hnext : s.Next e rest := .inl hagenda
    cases e with
    | complete =>
      have hstep := (step_complete_of_busy hnext hbusy).trans (complete_eq_finish _)
      exact ⟨1, _, by simp, stepsFrom_one hstep, rfl, fun _ => rfl⟩
    | reset => exact ⟨1, _, by simp, stepsFrom_one (step_of_next hnext), rfl, by simp⟩
    | read | write =>
      obtain ⟨ie, ovr, done, reads, hstep⟩ := step_access_of_busy hagenda rfl hbusy
      obtain ⟨k, t, hk, hsteps, hidle, hdone⟩ :=
        ih (accessed ie ovr done reads (setAgenda rest s)) hbusy rfl
      refine ⟨k + 1, t, by simpa using hk, (stepsFrom_succ k s _ hstep).trans hsteps, hidle,
        fun hreset => hdone ?_⟩
      exact fun hlater => hreset (List.mem_cons_of_mem _ hlater)

theorem stepsFrom_accesses (accesses rest : List Event) (s : State) (hbusy : s.busy = true)
    (haccess : ∀ e ∈ accesses, e.isAccess = true) (hagenda : s.agenda = accesses ++ rest) :
    ∃ ie ovr done reads, stepsFrom (accesses.length + 1) s =
      step (accessed ie ovr done reads (setAgenda rest s)) := by
  induction accesses generalizing s with
  | nil =>
    obtain ⟨t, ht⟩ := everyStepGoesOn s
    obtain rfl : s.agenda = rest := hagenda
    rw [setAgenda_self]
    exact ⟨s.ie, s.ovr, s.done, s.reads, (stepsFrom_one ht).trans ht.symm⟩
  | cons e accesses ih =>
    obtain ⟨he, haccesses⟩ := List.forall_mem_cons.1 haccess
    obtain ⟨ie, ovr, done, reads, hstep⟩ := step_access_of_busy hagenda he hbusy
    obtain ⟨ie', ovr', done', reads', hsteps⟩ :=
      ih (accessed ie ovr done reads (setAgenda (accesses ++ rest) s)) hbusy haccesses rfl
    exact ⟨ie', ovr', done', reads', (stepsFrom_succ _ s _ hstep).trans hsteps⟩

section Completion

variable (ie : BitVec 2) (ovr done : Bool) (reads : List ReadRecord) (s : State)

theorem effect_accessed (i : Instr) :
    effect i (accessed ie ovr done reads s) = accessed ie ovr done reads (effect i s) := by
  cases i <;> rfl

theorem performed_accessed (i : Instr) :
    performed i (accessed ie ovr done reads s) = accessed ie ovr done reads (performed i s) := by
  have hcode : execCode i (accessed ie ovr done reads s) = execCode i s := rfl
  by_cases hok : execCode i s = .ok
  · rw [performed_of_ok (hcode.trans hok), performed_of_ok hok, effect_accessed]
  · rw [performed_of_failed (hcode.trans_ne hok), performed_of_failed hok]

/-- A completion reads nothing of what a host access to a busy engine changes (R81). -/
theorem complete_accessed : complete (accessed ie ovr done reads s) =
    .next (finish (completionCode s) (accessed ie ovr done reads (completionEffect s))) := by
  have heffect : completionEffect (accessed ie ovr done reads s) =
      accessed ie ovr done reads (completionEffect s) := by
    have hpend : (accessed ie ovr done reads s).pend = s.pend := rfl
    unfold completionEffect
    rw [hpend]
    split
    · exact performed_accessed ie ovr done reads s _
    · rfl
  rw [complete_eq_finish, heffect]
  rfl

end Completion

/-- Settles O54: the accesses change nothing that the completion reads, and the completion itself
sets `DONE` (R81, R132). -/
theorem latencyDoesNotShowInResults : Obligations.LatencyDoesNotShowInResults := by
  intro s accesses rest hbusy haccess hagenda
  obtain ⟨ie, ovr, done, reads, hsteps⟩ :=
    stepsFrom_accesses accesses (.complete :: rest) s hbusy haccess hagenda
  have hlate := step_complete_of_busy
    (s := accessed ie ovr done reads (setAgenda (.complete :: rest) s)) (.inl rfl) hbusy
  have hnow := step_complete_of_busy (s := setAgenda (.complete :: rest) s) (.inl rfl) hbusy
  have hresult := complete_accessed ie ovr done reads (setAgenda rest s)
  exact ⟨_, _, (hsteps.trans hlate).trans hresult, hnow.trans (complete_eq_finish _), rfl⟩

end Sys2Proof.Machine
end
